-- ==== Sys2Proof/Word.lean ====
section
/-! DEFINITION. The three bit-vector widths of the block: bytes of the buffers, 32-bit registers and
host-port data, 12-bit host-port addresses. -/

namespace Sys2Proof

/-- A byte: 8 bits, an unsigned integer 0..255 (R9). -/
abbrev Byte := BitVec 8

/-- The content of a 32-bit register and the data of a 4-byte transaction (R53). -/
abbrev Word := BitVec 32

/-- A host-port byte address, `0x000 .. 0xFFF` (R50). -/
abbrev Addr := BitVec 12

end Sys2Proof
end

