-- ==== Sys2Proof/Machine/Port.lean ====
section
/-! DEFINITION. What crosses the boundary of the block: the host-port transactions and their responses
(R52, R91), and the inputs of the three agents (R8). -/

namespace Sys2Proof.Machine

/-- A host-port transaction (R52), in the notation of R91. The size is 1 or 4 bytes, the address has
12 bits: nothing else can be expressed on the port (Z2). -/
inductive Transaction where
  | r4 (addr : Addr)              -- `MemRead(addr, 4)`
  | w4 (addr : Addr) (v : Word)   -- `MemWrite(addr, 4, v)`
  | r1 (addr : Addr)              -- `MemRead(addr, 1)`
  | w1 (addr : Addr) (v : Byte)   -- `MemWrite(addr, 1, v)`
  deriving DecidableEq, Repr

/-- The response to a transaction (R52). -/
inductive Response where
  | okay                  -- `OKAY` of a write
  | okayWord (v : Word)   -- `OKAY(v)` of a 4-byte read
  | okayByte (v : Byte)   -- `OKAY(v)` of a 1-byte read
  | slverr                -- `SLVERR`
  deriving DecidableEq, Repr

/-- The `OKAY` of a transaction's kind (R52), with the data `v` where the transaction is a read. -/
def okayResponse (t : Transaction) (v : Word) : Response :=
  match t with
  | .r4 _ => .okayWord v
  | .w4 _ _ => .okay
  | .r1 _ => .okayByte (v.setWidth 8)
  | .w1 _ _ => .okay

/-- One input of the environment (R8). Inputs that arrive apart are a transaction, a `frame_irq` event
or a reset. Two coinciding events are one followed by another, and an event that coincides with a reset
leaves the reset state (R205), so neither needs an input of its own. -/
inductive Input where
  | transaction (t : Transaction)   -- one host-port transaction
  | frameIrq                        -- one `frame_irq` event (R182)
  | reset                           -- one reset (R230)
  | irqWith (t : Transaction)       -- an event and a transaction that arrive together (R60)
  | resetWith (t : Transaction)     -- a reset that coincides with a transaction (R205)
  deriving DecidableEq, Repr

end Sys2Proof.Machine
end

