-- ==== Sys2Proof/Config.lean ====
section
/-! DEFINITION. The identity of the hardware (R1). What an implementation fixes: the parameters of R5 and the reference instantiation REF
(R7); and the free values, which the spec leaves open. -/

namespace Sys2Proof

/-- What identifies a hardware (R1); `none` where nothing is stated. -/
structure Identity where
  hardware         : String
  originRepository : String
  sourceDocument   : String
  issuer           : Option String
  revision         : Option String
  isaString        : Option String
  deriving DecidableEq, Repr

/-- The identity R1 says to record. The block is not a processor and has no ISA string. -/
def Identity.tinyGsRsd : Identity where
  hardware := "tinyGS-RSD"
  originRepository := "juliatribo/tinyGS"
  sourceDocument := "the source"
  issuer := none
  revision := none
  isaString := none

/-- Three link metrics, each an opaque 32-bit pattern (R27, R180). -/
structure Metrics where
  rssi : Word
  snr  : Word
  ferr : Word
  deriving DecidableEq, Repr

/-- All three patterns zero (the reset value of R36). -/
def Metrics.zero : Metrics := { rssi := 0, snr := 0, ferr := 0 }

/-- Reset content of the tracker's previous-metrics store (R5, R188). -/
inductive TrkReset where
  | invalid
  | valid (m : Metrics)
  deriving DecidableEq, Repr

/-- The parameters of the block (R5). Their legality (R6) is `Params.wf`. -/
structure Params where
  rows     : Nat        -- R_ROWS
  cols     : Nat        -- C_COLS
  npar     : Nat        -- NPAR
  kMsg     : Nat        -- K_MSG
  gfPoly   : BitVec 9   -- GF_POLY, bit i is the coefficient of x^i
  fcr      : Nat        -- FCR
  bufMax   : Nat        -- BUF_MAX
  filtMax  : Nat        -- FILT_MAX
  trkReset : TrkReset   -- TRK_RESET
  deriving DecidableEq, Repr

/-- The reference instantiation REF (R7). It is not a claim about the real firmware. -/
def Params.ref : Params :=
  { rows := 3, cols := 4, npar := 4, kMsg := 251, gfPoly := 0x11D, fcr := 1,
    bufMax := 255, filtMax := 6, trkReset := .invalid }

/-- Free value (assumption 4): whether draw `n` puts a `frame_irq` event before the transaction it
coincides with. R60 allows either order. -/
opaque Config.irqFirst : Nat → Bool

/-- Free value (assumption 5): whether draw `n` answers a transaction overridden by a coinciding reset with
the `OKAY` of its kind, not with `SLVERR`. R52 names the two responses; no rule says which it is. -/
opaque Config.overriddenOkay : Nat → Bool

/-- Free value (assumption 5): the data that draw `n` returns where an overridden read is answered `OKAY`;
a 1-byte read takes the low byte. -/
opaque Config.overriddenData : Nat → Word

end Sys2Proof
end

