-- ==== Sys2Proof/Machine/State.lean ====
section
/-! DEFINITION. The state (R20, INVENTORY.md), the reasons a step can stop, and the state after reset. -/

namespace Sys2Proof.Machine

/-- The result codes (R201), numbered by `ResultCode.bits`. -/
inductive ResultCode where
  | ok               -- 0 OK
  | spurious         -- 1 SPURIOUS, by TRK only
  | filterRejected   -- 2 FILTER_REJECTED, by FILT only
  | uncorrectable    -- 3 UNCORRECTABLE, by RSDEC and DECODE
  | eLength          -- 4 E_LENGTH, by RSDEC and DECODE
  | eBadCmd          -- 5 E_BADCMD, by a reserved word written to CMD
  deriving DecidableEq, Repr

/-- Byte storage: cells of a host-port address and a byte, in the canonical form `Memory.wf`. -/
abbrev Memory := List Host.Cell

/-- The components of R20, then four fields of the model's own (assumptions 1, 2, 4 and 5). -/
structure State where
  /-- `IB[0 .. IB_LEN-1]`; `IB_LEN` is its length (R23, assumption 3). -/
  ib           : List Byte
  /-- `WB[0 .. WB_LEN-1]`; `WB_LEN` is its length (R24, assumption 3). -/
  wb           : List Byte
  /-- `FILT_CFG.LEN` (R25). -/
  filtLen      : Byte
  /-- `FILT_CFG.OFF` (R25). -/
  filtOff      : Byte
  /-- `FX`, the cell of `FX[i]` at address `0x080 + i` (R26, R51). -/
  fx           : Memory
  /-- `MET_RSSI`, `MET_SNR`, `MET_FERR` (R27). -/
  met          : Metrics
  /-- `PREV_RSSI`, `PREV_SNR`, `PREV_FERR` (R28). -/
  prev         : Metrics
  /-- `PREV_VALID` (R28). -/
  prevValid    : Bool
  /-- `FRAME_READY` (R29). -/
  frameReady   : Bool
  /-- `IRQ_EN` (R29). -/
  irqEn        : Bool
  /-- `DUP_SUSPECTED` (R29). -/
  dupSuspected : Bool
  /-- `RESULT` (R30). -/
  result       : ResultCode
  /-- The model's own: the arguments of R5, which no step changes (assumption 1). -/
  params       : Params
  /-- The model's own: what the environment does next, in order (R8, assumption 2). -/
  inputs       : List Input
  /-- The model's own: the responses the host has received, latest first (assumption 2). -/
  responses    : List Response
  /-- The model's own: how many free values have been drawn (assumptions 4 and 5). -/
  draws        : Nat
  deriving DecidableEq, Repr

/-- The block has no stuck state: every transaction and every event has exactly one outcome in every
state (R245). So no step faults, and this type has no constructor (assumption 9). -/
inductive Fault where
  deriving DecidableEq, Repr

/-- The reasons for which there is no next state. -/
inductive Refusal where
  /-- An instruction without a meaning yet; raised by `exec`'s arms only, and by none of them now. Safe. -/
  | notModelled (mnemonic : String)
  /-- An instantiation of the parameters that violates R6; raised by `construct` only. Safe. -/
  | illegalParameters
  deriving DecidableEq, Repr

/-- The state after reset for the parameters `p` (R36, R230), with no input pending. -/
def State.powerUp (p : Params) : State where
  ib := []
  wb := []
  filtLen := 0
  filtOff := 0
  fx := []
  met := Metrics.zero
  prev := match p.trkReset with
    | .invalid => Metrics.zero
    | .valid m => m
  prevValid := match p.trkReset with
    | .invalid => false
    | .valid _ => true
  frameReady := false
  irqEn := false
  dupSuspected := false
  result := .ok
  params := p
  inputs := []
  responses := []
  draws := 0

/-- The machine right after reset, instantiated with REF (R7, assumption 1). -/
def State.reset : State := State.powerUp Params.ref

end Sys2Proof.Machine
end

