-- ==== Sys2Proof/Machine/Galois.lean ====
section
/-! DEFINITION. Arithmetic of GF(2^8) (R121 to R123), for a field polynomial given as an argument. -/

namespace Sys2Proof.Machine

/-- Addition and subtraction are exclusive or (R121). -/
def gfAdd (a b : Byte) : Byte := a ^^^ b

/-- First loop of R122: the polynomial product over GF(2), up to 15 bits. -/
def gfProduct (a b : Byte) : BitVec 15 :=
  [0, 1, 2, 3, 4, 5, 6, 7].foldl
    (fun r i => bif b.getLsbD i then r ^^^ (a.setWidth 15 <<< i) else r) 0

/-- Second loop of R122: reduction modulo the field polynomial, from bit 14 down to bit 8. -/
def gfReduce (poly : BitVec 9) (r : BitVec 15) : BitVec 15 :=
  [14, 13, 12, 11, 10, 9, 8].foldl
    (fun r i => bif r.getLsbD i then r ^^^ (poly.setWidth 15 <<< (i - 8)) else r) r

/-- Multiplication modulo the field polynomial (R122). -/
def gfMul (poly : BitVec 9) (a b : Byte) : Byte := (gfReduce poly (gfProduct a b)).setWidth 8

/-- `ALPHA` (R123). -/
def alpha : Byte := 0x02

/-- Powers (R123). -/
def gfPow (poly : BitVec 9) (a : Byte) : Nat → Byte
  | 0 => 0x01
  | n + 1 => gfMul poly (gfPow poly a n) a

/-- Inverse of a nonzero element, `a^254` (R123), as the product of `a^2`, `a^4`, …, `a^128`. R123 leaves
the inverse of 0 undefined and no rule calls it (assumption 6). -/
def gfInv (poly : BitVec 9) (a : Byte) : Byte :=
  let a2 := gfMul poly a a
  let a4 := gfMul poly a2 a2
  let a8 := gfMul poly a4 a4
  let a16 := gfMul poly a8 a8
  let a32 := gfMul poly a16 a16
  let a64 := gfMul poly a32 a32
  let a128 := gfMul poly a64 a64
  gfMul poly a2 (gfMul poly a4 (gfMul poly a8 (gfMul poly a16 (gfMul poly a32 (gfMul poly a64 a128)))))

/-- The list `x, x ALPHA, x ALPHA^2, …` of `n` elements. -/
def gfOrbit (poly : BitVec 9) : Nat → Byte → List Byte
  | 0, _ => []
  | n + 1, x => x :: gfOrbit poly n (gfMul poly x alpha)

/-- No byte of the list occurs twice, nor is any of them a set bit of `seen`. -/
def distinctFrom : Nat → List Byte → Bool
  | _, [] => true
  | seen, b :: bs => !seen.testBit b.toNat && distinctFrom (seen ||| (1 <<< b.toNat)) bs

end Sys2Proof.Machine
end

