-- ==== Sys2Proof/Machine/Parameters.lean ====
section
/-! DEFINITION. The checks on the parameters, one definition per constraint of R6, and the two derived
constants of R6. -/

namespace Sys2Proof.Machine

/-- `R_ROWS >= 1`. -/
def rowsLegal (p : Params) : Bool := decide (1 ≤ p.rows)

/-- `C_COLS >= 1`. -/
def colsLegal (p : Params) : Bool := decide (1 ≤ p.cols)

/-- `1 <= NPAR`. -/
def nparLegal (p : Params) : Bool := decide (1 ≤ p.npar)

/-- `1 <= K_MSG`. -/
def kMsgLegal (p : Params) : Bool := decide (1 ≤ p.kMsg)

/-- `K_MSG + NPAR <= 255`. -/
def codeLengthLegal (p : Params) : Bool := decide (p.kMsg + p.npar ≤ 255)

/-- `GF_POLY` in `0x101 .. 0x1FF` with bit 0 set. -/
def gfPolyShapeLegal (p : Params) : Bool :=
  decide (0x101 ≤ p.gfPoly.toNat) && decide (p.gfPoly.toNat ≤ 0x1FF) && p.gfPoly.getLsbD 0

/-- The powers `0x02^0 .. 0x02^254` are pairwise distinct. -/
def alphaGenerates (p : Params) : Bool := distinctFrom 0 (gfOrbit p.gfPoly 255 0x01)

/-- `0 <= FCR <= 254`. -/
def fcrLegal (p : Params) : Bool := decide (p.fcr ≤ 254)

/-- `1 <= BUF_MAX <= 3584`. -/
def bufMaxLegal (p : Params) : Bool := decide (1 ≤ p.bufMax) && decide (p.bufMax ≤ 3584)

/-- `0 <= FILT_MAX <= 128`. -/
def filtMaxLegal (p : Params) : Bool := decide (p.filtMax ≤ 128)

/-- `B`, the interleaver block size in bytes (R6). -/
def blockSize (p : Params) : Nat := p.rows * p.cols

/-- `T_CORR`, the correction bound (R6, R127). -/
def tCorr (p : Params) : Nat := p.npar / 2

end Sys2Proof.Machine
end

