-- ==== Sys2Proof/Syntax.lean ====
section
/-! DEFINITION. The ten commands of the opcode table (R81). No command has an operand in its encoding
(R83), so no constructor has an argument. -/

namespace Sys2Proof

/-- The commands, in opcode order (R81). -/
inductive Instr where
  | clr       -- CLR, opcode 0x01 (R112)
  | copy      -- COPY, opcode 0x02 (R113)
  | deint     -- DEINT, opcode 0x03 (R135)
  | strip     -- STRIP, opcode 0x04 (R136)
  | rsdec     -- RSDEC, opcode 0x05 (R137)
  | decode    -- DECODE, opcode 0x06 (R138)
  | filt      -- FILT, opcode 0x07 (R161)
  | trk       -- TRK, opcode 0x08 (R181)
  | begin_    -- BEGIN, opcode 0x09 (R183)
  | rearm     -- REARM, opcode 0x0A (R184)
  deriving DecidableEq, Repr

end Sys2Proof
end

