-- ==== Sys2Proof/WellFormed.lean ====
section
/-! DEFINITION. Well-formedness of commands and of parameter instantiations. -/

namespace Sys2Proof

/-- Every command is well formed: none has an operand field that a value could fall outside of (R83). -/
def Instr.wf : Instr → Bool
  | .clr => true
  | .copy => true
  | .deint => true
  | .strip => true
  | .rsdec => true
  | .decode => true
  | .filt => true
  | .trk => true
  | .begin_ => true
  | .rearm => true

/-- The constraints a model must check at construction (R6). -/
def Params.wf (p : Params) : Bool :=
  Machine.rowsLegal p && Machine.colsLegal p && Machine.nparLegal p && Machine.kMsgLegal p &&
  Machine.codeLengthLegal p && Machine.gfPolyShapeLegal p && Machine.fcrLegal p &&
  Machine.bufMaxLegal p && Machine.filtMaxLegal p && Machine.alphaGenerates p

end Sys2Proof
end

