-- ==== Sys2Proof/Machine/Ops.lean ====
section
/-! DEFINITION. The named operations over the state: byte storage, buffers, registers, flags; reporting a
condition; reset and construction.

The block takes no traps (R200), so there is no exception entry and no return (R206, R207): a command
reports its condition through `report` (R201) and a refused access through `refuseAccess` (R202). -/

namespace Sys2Proof.Machine

/-! ### Byte storage -/

/-- What an unlisted address reads as: the reset content of `FX` (R26, R36). -/
def Memory.unlisted : Byte := 0x00

/-- The canonical form: addresses strictly rising, and no cell holds what an unlisted address reads as. -/
abbrev Memory.wf (m : Memory) : Prop :=
  m.Pairwise (fun x y => x.1 < y.1) ∧ ∀ c ∈ m, c.2 ≠ Memory.unlisted

/-- The byte at an address. -/
def Memory.read (m : Memory) (a : Nat) : Byte :=
  match m with
  | [] => Memory.unlisted
  | (k, v) :: rest => if k = a then v else Memory.read rest a

/-- A cell in front of a list, left out when it holds what an unlisted address reads as. -/
def Memory.consCell (a : Nat) (v : Byte) (rest : Memory) : Memory :=
  if v = Memory.unlisted then rest else (a, v) :: rest

/-- Writing one byte, in canonical form. -/
def Memory.write (m : Memory) (a : Nat) (v : Byte) : Memory :=
  match m with
  | [] => Memory.consCell a v []
  | (k, u) :: rest =>
    if a < k then Memory.consCell a v ((k, u) :: rest)
    else if a = k then Memory.consCell a v rest
    else (k, u) :: Memory.write rest a v

/-! ### Buffers and registers -/

/-- `IB_LEN <- 0` (R112). -/
def clearFrame (s : State) : State := { s with ib := [] }

/-- `IB[IB_LEN] <- b; IB_LEN <- IB_LEN + 1` (R104). -/
def appendFrame (b : Byte) (s : State) : State := { s with ib := s.ib ++ [b] }

/-- `WB[0 .. n-1] <- bytes; WB_LEN <- n` (R24). -/
def setWork (bytes : List Byte) (s : State) : State := { s with wb := bytes }

/-- `FILT_CFG.LEN <- len; FILT_CFG.OFF <- off` (R106). -/
def setFilter (len off : Byte) (s : State) : State := { s with filtLen := len, filtOff := off }

/-- The byte of `FX` at a host-port address (R107). -/
def readFx (s : State) (a : Nat) : Byte := Memory.read s.fx a

/-- `FX[i] <- v`, by host-port address (R107). -/
def writeFx (a : Nat) (v : Byte) (s : State) : State := { s with fx := Memory.write s.fx a v }

/-- Write of the three `MET_*` registers (R108). -/
def setMetrics (m : Metrics) (s : State) : State := { s with met := m }

/-- `PREV_* <- MET_*; PREV_VALID <- 1` (R181). -/
def trackMetrics (s : State) : State := { s with prev := s.met, prevValid := true }

/-- `FRAME_READY <- b` (R29). -/
def setFrameReady (b : Bool) (s : State) : State := { s with frameReady := b }

/-- `IRQ_EN <- b` (R29). -/
def setIrqEn (b : Bool) (s : State) : State := { s with irqEn := b }

/-- `DUP_SUSPECTED <- b` (R29). -/
def setDupSuspected (b : Bool) (s : State) : State := { s with dupSuspected := b }

/-- `RESULT <- code`: the command ends and reports its condition (R101, R201). -/
def report (code : ResultCode) (s : State) : State := { s with result := code }

/-! ### The environment's side -/

/-- The host receives a response (R52). -/
def respond (r : Response) (s : State) : State := { s with responses := r :: s.responses }

/-- `respond SLVERR`: no state of the block changes (R10, R202). -/
def refuseAccess (s : State) : State := respond .slverr s

/-- The environment's next inputs become `rest` (R8). -/
def setInputs (rest : List Input) (s : State) : State := { s with inputs := rest }

/-- One free value has been drawn. -/
def countDraw (s : State) : State := { s with draws := s.draws + 1 }

/-! ### Reset and construction -/

/-- A reset leaves exactly the state of R36 (R230); what belongs to the environment stays. -/
def resetBlock (s : State) : State :=
  { State.powerUp s.params with inputs := s.inputs, responses := s.responses, draws := s.draws }

/-- Construction of a machine: an instantiation that violates R6 is refused; power-up is a reset (R230). -/
def construct (p : Params) : Host.Outcome State Fault Refusal :=
  if p.wf then .next (State.powerUp p) else .refused .illegalParameters

end Sys2Proof.Machine
end

