-- ==== Sys2Proof/Machine/Operands.lean ====
section
/-! DEFINITION. The implicit operands of the commands (R21, R83) and the addresses of the host port (R51). -/

namespace Sys2Proof.Machine

/-! ### Addresses of the twelve registers -/

abbrev addrCmd : Addr := 0x000
abbrev addrStatus : Addr := 0x004
abbrev addrIbPush : Addr := 0x008
abbrev addrIbLen : Addr := 0x00C
abbrev addrWbLen : Addr := 0x010
abbrev addrFiltCfg : Addr := 0x014
abbrev addrMetRssi : Addr := 0x018
abbrev addrMetSnr : Addr := 0x01C
abbrev addrMetFerr : Addr := 0x020
abbrev addrPrevRssi : Addr := 0x024
abbrev addrPrevSnr : Addr := 0x028
abbrev addrPrevFerr : Addr := 0x02C

/-- Address of `FX[0]`. -/
def fxBase : Nat := 0x080

/-- Address of `WB[0]`. -/
def wbBase : Nat := 0x200

/-- `0x080 <= addr < 0x080 + FILT_MAX` (R100). -/
def inFx (s : State) (a : Addr) : Bool :=
  decide (fxBase ≤ a.toNat) && decide (a.toNat < fxBase + s.params.filtMax)

/-- `0x200 <= addr < 0x200 + WB_LEN` (R100). -/
def inWb (s : State) (a : Addr) : Bool :=
  decide (wbBase ≤ a.toNat) && decide (a.toNat < wbBase + s.wb.length)

/-! ### Operands -/

/-- `IB[0 .. IB_LEN-1]`, the operand of COPY, DEINT and DECODE. -/
def frameOperand (s : State) : List Byte := s.ib

/-- `WB[0 .. WB_LEN-1]`, the operand of STRIP, RSDEC and FILT. -/
def workOperand (s : State) : List Byte := s.wb

/-- `FX[i]`, for FILT. -/
def fxOperand (s : State) (i : Nat) : Byte := readFx s (fxBase + i)

/-- `FILT_CFG.LEN`, for FILT. -/
def lenOperand (s : State) : Nat := s.filtLen.toNat

/-- `FILT_CFG.OFF`, for FILT. -/
def offOperand (s : State) : Nat := s.filtOff.toNat

end Sys2Proof.Machine
end

