-- ==== Sys2Proof/Machine/Buffer.lean ====
section
/-! DEFINITION. The buffer commands CLR and COPY. -/

namespace Sys2Proof.Machine

/-- CLR (R112). -/
def execClr (s : State) : Host.Outcome State Fault Refusal :=
  .next (report .ok (clearFrame s))

/-- COPY (R113). -/
def execCopy (s : State) : Host.Outcome State Fault Refusal :=
  .next (report .ok (setWork (frameOperand s) s))

end Sys2Proof.Machine
end

