-- ==== Sys2Proof/Machine/Interleave.lean ====
section
/-! DEFINITION. The de-interleaver `deint` (R131, R132) and the padding strip `strip` (R134). -/

namespace Sys2Proof.Machine

/-- The step at which the column-major writer reached the cell that the row-major reader visits at step
`j` (R131). -/
def writeStep (rows cols j : Nat) : Nat := (j % cols) * rows + j / cols

/-- One block of R131: the reader visits every cell and skips those the writer did not reach (R132). -/
def deintBlock {α : Type} (rows cols : Nat) (block : List α) : List α :=
  (List.range (rows * cols)).filterMap (fun j => block[writeStep rows cols j]?)

/-- The block that starts at index `s`: `min(B, n - s)` elements. -/
def blockAt {α : Type} (size s : Nat) (input : List α) : List α := (input.drop s).take size

/-- `deint` (R131): one block for each start `0, B, 2B, …` below the length. -/
def deint {α : Type} (rows cols : Nat) (input : List α) : List α :=
  let size := rows * cols
  (List.range ((input.length + size - 1) / size)).flatMap
    (fun b => deintBlock rows cols (blockAt size (b * size) input))

/-- `PAD_SENTINEL` (R88). -/
def padSentinel : Byte := 0xFF

/-- The scan of R134 from index `n - 1` down to 0. -/
def stripBelow (d : List Byte) : Nat → List Byte
  | 0 => d
  | i + 1 => if d[i]? = some padSentinel then d.take i else stripBelow d i

/-- `strip` (R134): the bytes before the last sentinel, or all when there is none. -/
def strip (d : List Byte) : List Byte := stripBelow d d.length

end Sys2Proof.Machine
end

