-- ==== Sys2Proof/Machine/ReedSolomon.lean ====
section
/-! DEFINITION. The Reed-Solomon code (R125, R127) and the decoder's contract `rs_decode` (R128), computed
by a search over the sets of at most `T_CORR` error positions (assumption 7). -/

namespace Sys2Proof.Machine

/-- The root `gf_pow(ALPHA, FCR + j)` of the generator polynomial (R124). -/
def codeRoot (p : Params) (j : Nat) : Byte := gfPow p.gfPoly alpha (p.fcr + j)

/-- Horner's rule, byte 0 the coefficient of the highest power (R125). -/
def gfHorner (poly : BitVec 9) (x : Byte) (w : List Byte) : Byte :=
  w.foldl (fun y b => gfAdd (gfMul poly y x) b) 0

/-- `S_j(w)` (R125). -/
def syndrome (p : Params) (w : List Byte) (j : Nat) : Byte := gfHorner p.gfPoly (codeRoot p j) w

/-- `S_0(w) .. S_{NPAR-1}(w)`. -/
def syndromes (p : Params) (w : List Byte) : List Byte := (List.range p.npar).map (syndrome p w)

/-- Every byte of the list is zero. -/
def allZero (w : List Byte) : Bool := w.all (fun b => b == 0)

/-- `is_codeword(w)` (R125). -/
def isCodeword (p : Params) (w : List Byte) : Bool :=
  decide (p.npar < w.length) && allZero (syndromes p w)

/-- `dist(c, w)` for words of one length: the number of indices at which they differ (R128). -/
def wordDist (c w : List Byte) : Nat := (List.zip c w).countP (fun x => x.1 != x.2)

/-- The length check of R128. -/
def lengthLegal (p : Params) (n : Nat) : Bool := decide (p.npar < n) && decide (n ≤ p.kMsg + p.npar)

/-- The sets of at most `t` positions of a word of length `n`, each rising, the smaller sets first. -/
def errorSupports (t n : Nat) : List (List Nat) :=
  (List.range (t + 1)).flatMap (fun k => List.sublistsLen k (List.range n))

/-- `X_i = gf_pow(ALPHA, L-1-i)`, the locator of position `i` in a word of length `L`. -/
def locator (p : Params) (len i : Nat) : Byte := gfPow p.gfPoly alpha (len - 1 - i)

/-- From the sums `sum over k of y_k X_k^j`, `j = 0, 1, …`, the sums `sum over k of y_k (X_k - x) X_k^j`,
one fewer: the term of locator `x` is gone. -/
def peelLocator (poly : BitVec 9) (x : Byte) (sums : List Byte) : List Byte :=
  List.zipWith (fun a b => gfAdd b (gfMul poly x a)) sums sums.tail

/-- The coefficients `y_k` of the locators `X_k`, from the sums `sum over k of y_k X_k^j`. -/
def solveCoefficients (poly : BitVec 9) : List Byte → List Byte → List Byte
  | _, [] => []
  | sums, x :: xs =>
    let scaled := solveCoefficients poly (peelLocator poly x sums) xs
    let ys := List.zipWith (fun z x' => gfMul poly z (gfInv poly (gfAdd x' x))) scaled xs
    ys.foldl gfAdd (sums.headD 0) :: ys

/-- `bytes` with `e` added at each listed position `i`. -/
def addErrors (bytes : List Byte) (errors : List (Nat × Byte)) : List Byte :=
  errors.foldl (fun c ie => c.modify ie.1 (gfAdd ie.2)) bytes

/-- Errors confined to `support` would produce these syndromes. -/
def supportExplains (p : Params) (w : List Byte) (support : List Nat) : Bool :=
  allZero (support.foldl (fun s i => peelLocator p.gfPoly (locator p w.length i) s) (syndromes p w))

/-- The word made from `w` by changing the positions of `support` so that its first syndromes vanish. -/
def correctAt (p : Params) (w : List Byte) (support : List Nat) : List Byte :=
  let xs := support.map (locator p w.length)
  let ys := solveCoefficients p.gfPoly (syndromes p w) xs
  let errors := List.zipWith (fun y x => gfMul p.gfPoly y (gfInv p.gfPoly (gfPow p.gfPoly x p.fcr))) ys xs
  addErrors w (List.zip support errors)

/-- The codeword within `T_CORR` of `w` that differs from it on `support` only, if there is one. -/
def codewordAt (p : Params) (w : List Byte) (support : List Nat) : Option (List Byte) :=
  if supportExplains p w support then
    let c := correctAt p w support
    if isCodeword p c && decide (wordDist c w ≤ tCorr p) then some c else none
  else none

/-- A codeword within `T_CORR` of `w`, if there is one (R128). -/
def nearestCodeword (p : Params) (w : List Byte) : Option (List Byte) :=
  (errorSupports (tCorr p) w.length).findSome? (codewordAt p w)

/-- `rs_decode` (R128): the length check first (R205). -/
def rsDecode (p : Params) (w : List Byte) : Except ResultCode (List Byte) :=
  if lengthLegal p w.length then
    match nearestCodeword p w with
    | some c => .ok (c.take (w.length - p.npar))
    | none => .error .uncorrectable
  else .error .eLength

end Sys2Proof.Machine
end

