-- ==== Sys2Proof/Machine/Fec.lean ====
section
/-! DEFINITION. The FEC commands DEINT, STRIP, RSDEC and DECODE (R120). -/

namespace Sys2Proof.Machine

/-- How RSDEC and DECODE end (R137, R138): the message in `WB`, or an empty `WB` and the error's code. -/
def finishDecode (r : Except ResultCode (List Byte)) (s : State) : State :=
  match r with
  | .ok m => report .ok (setWork m s)
  | .error code => report code (setWork [] s)

/-- DEINT (R135). -/
def execDeint (s : State) : Host.Outcome State Fault Refusal :=
  .next (report .ok (setWork (deint s.params.rows s.params.cols (frameOperand s)) s))

/-- STRIP (R136). -/
def execStrip (s : State) : Host.Outcome State Fault Refusal :=
  .next (report .ok (setWork (strip (workOperand s)) s))

/-- RSDEC (R137). -/
def execRsdec (s : State) : Host.Outcome State Fault Refusal :=
  .next (finishDecode (rsDecode s.params (workOperand s)) s)

/-- DECODE (R138). -/
def execDecode (s : State) : Host.Outcome State Fault Refusal :=
  let d := deint s.params.rows s.params.cols (frameOperand s)
  .next (finishDecode (rsDecode s.params (strip d)) s)

end Sys2Proof.Machine
end

