-- ==== Sys2Proof/Machine/Filter.lean ====
section
/-! DEFINITION. The packet filter: the predicate `filter_pass` and the command FILT. -/

namespace Sys2Proof.Machine

/-- `TEST_MARKER`, ASCII "Tiny" (R87). -/
def testMarker : List Byte := [0x54, 0x69, 0x6E, 0x79]

/-- The frame begins with the test marker (R160); a frame of fewer than 4 bytes cannot. -/
def beginsWithMarker (f : List Byte) : Bool := f.take 4 == testMarker

/-- `filter_pass` (R160): positions are unbounded, and a position beyond the frame is a difference. -/
def filterPass (f : List Byte) (len off : Nat) (expected : Nat → Byte) : Bool :=
  if len = 0 then true
  else if beginsWithMarker f then true
  else (List.range len).all (fun i => f[off + i]? == some (expected i))

/-- FILT (R161). -/
def execFilt (s : State) : Host.Outcome State Fault Refusal :=
  .next (report
    (if filterPass (workOperand s) (lenOperand s) (offOperand s) (fxOperand s) then .ok else .filterRejected) s)

end Sys2Proof.Machine
end

