-- ==== Sys2Proof/Machine/Tracker.lean ====
section
/-! DEFINITION. The duplicate-detection frame tracker: `metrics_equal` and the commands TRK, BEGIN, REARM. -/

namespace Sys2Proof.Machine

/-- `metrics_equal` (R180): all 96 bits agree. -/
def metricsEqual (a b : Metrics) : Bool := a.rssi == b.rssi && a.snr == b.snr && a.ferr == b.ferr

/-- TRK (R181). -/
def execTrk (s : State) : Host.Outcome State Fault Refusal :=
  if s.prevValid && metricsEqual s.met s.prev then .next (report .spurious s)
  else .next (report .ok (trackMetrics s))

/-- BEGIN (R183). -/
def execBegin (s : State) : Host.Outcome State Fault Refusal :=
  .next (report .ok (setFrameReady false (setIrqEn false s)))

/-- REARM (R184). -/
def execRearm (s : State) : Host.Outcome State Fault Refusal :=
  .next (report .ok (setDupSuspected false (setIrqEn true s)))

end Sys2Proof.Machine
end

