-- ==== Sys2Proof/Machine/Dispatch.lean ====
section
/-! DEFINITION. The dispatch of a command to its meaning (R103), one arm per command. -/

namespace Sys2Proof.Machine

def exec (i : Instr) (s : State) : Host.Outcome State Fault Refusal :=
  match i with
  | .clr => Sys2Proof.Machine.execClr s
  | .copy => Sys2Proof.Machine.execCopy s
  | .deint => Sys2Proof.Machine.execDeint s
  | .strip => Sys2Proof.Machine.execStrip s
  | .rsdec => Sys2Proof.Machine.execRsdec s
  | .decode => Sys2Proof.Machine.execDecode s
  | .filt => Sys2Proof.Machine.execFilt s
  | .trk => Sys2Proof.Machine.execTrk s
  | .begin_ => Sys2Proof.Machine.execBegin s
  | .rearm => Sys2Proof.Machine.execRearm s

end Sys2Proof.Machine
end

