-- ==== Sys2Proof/Decode.lean ====
section
/-! DEFINITION. The command decoder, total on every 32-bit word, the encoder, and the reading of a row of
the opcode table (R80 to R82). -/

namespace Sys2Proof

/-- Why a word is reserved (R82). -/
inductive Reserved where
  | nonzeroHighBits   -- a nonzero bit in [31:8]
  | unknownOpcode     -- opcode 0x00 or 0x0B .. 0xFF
  deriving DecidableEq, Repr

/-- What the decoder answers. -/
inductive Decoded where
  | command (i : Instr)
  | reserved (why : Reserved)
  deriving DecidableEq, Repr

/-- The opcode map (R81, R103). -/
def decodeOpcode (op : Byte) : Decoded :=
  if op = 0x01 then .command .clr
  else if op = 0x02 then .command .copy
  else if op = 0x03 then .command .deint
  else if op = 0x04 then .command .strip
  else if op = 0x05 then .command .rsdec
  else if op = 0x06 then .command .decode
  else if op = 0x07 then .command .filt
  else if op = 0x08 then .command .trk
  else if op = 0x09 then .command .begin_
  else if op = 0x0A then .command .rearm
  else .reserved .unknownOpcode

/-- Decoding of the data word of a `CMD` write (R80, R82, R103). -/
def decodeWord (w : Word) : Decoded :=
  if w.extractLsb' 8 24 = 0 then decodeOpcode (w.extractLsb' 0 8)
  else .reserved .nonzeroHighBits

/-- The opcode of a command (R81). -/
def opcode : Instr → Byte
  | .clr => 0x01
  | .copy => 0x02
  | .deint => 0x03
  | .strip => 0x04
  | .rsdec => 0x05
  | .decode => 0x06
  | .filt => 0x07
  | .trk => 0x08
  | .begin_ => 0x09
  | .rearm => 0x0A

/-- Encoding of a command: `zero` in [31:8], `opcode` in [7:0] (R80). -/
def encodeWord (i : Instr) : Word := (0 : BitVec 24) ++ opcode i

/-- The command word whose low `nbits` bits are `w`, the rest 0: one 32-bit word, no byte order (R56, R80). -/
def tableWord (nbits w : Nat) : Word := BitVec.ofNat 32 (w % 2 ^ nbits)

/-- The command the decoder reads from a row of the opcode table. -/
def decodeTableWord (nbits w : Nat) : Option Instr :=
  match decodeWord (tableWord nbits w) with
  | .command i => some i
  | .reserved _ => none

end Sys2Proof
end

