-- ==== Sys2Proof/Machine/Flags.lean ====
section
/-! DEFINITION. The register views made of fields (STATUS, FILT_CFG, IB_LEN, WB_LEN), the result codes as
bits, and what a `frame_irq` event does to the receive flags. The block has no condition codes (R29). -/

namespace Sys2Proof.Machine

/-- The number of a result code (R201). -/
def ResultCode.bits : ResultCode → BitVec 4
  | .ok => 0
  | .spurious => 1
  | .filterRejected => 2
  | .uncorrectable => 3
  | .eLength => 4
  | .eBadCmd => 5

/-- `STATUS` (R31, R111): from bit 31 down, 24 zeros, PREV_VALID, DUP_SUSPECTED, IRQ_EN, FRAME_READY, RESULT. -/
def statusWord (s : State) : Word :=
  (0 : BitVec 24) ++ BitVec.ofBool s.prevValid ++ BitVec.ofBool s.dupSuspected ++
    BitVec.ofBool s.irqEn ++ BitVec.ofBool s.frameReady ++ s.result.bits

/-- `FILT_CFG` (R25, R106): bits [31:16] zero, OFF, LEN. -/
def filtCfgWord (s : State) : Word := (0 : BitVec 16) ++ s.filtOff ++ s.filtLen

/-- A length register (R105): 12 bits, zero-extended to 32. -/
def lengthWord (bytes : List Byte) : Word := (BitVec.ofNat 12 bytes.length).setWidth 32

/-- One `frame_irq` event (R182). -/
def frameIrq (s : State) : State :=
  if s.irqEn = false then s
  else if s.frameReady = false then setFrameReady true s
  else setDupSuspected true s

end Sys2Proof.Machine
end

