-- ==== Sys2Proof/Machine/HostPort.lean ====
section
/-! DEFINITION. The host port: what each transaction does (R100), R100's dispatch in its order. A write to
CMD runs a command, through the argument `run`. -/

namespace Sys2Proof.Machine

/-- Write of `IB_PUSH` (R104). -/
def pushByte (w : Word) (s : State) : State :=
  if s.ib.length = s.params.bufMax then refuseAccess s
  else respond .okay (appendFrame (w.setWidth 8) s)

/-- Write of `FILT_CFG` (R106). -/
def writeFiltCfg (w : Word) (s : State) : State :=
  if s.params.filtMax < (w.extractLsb' 0 8).toNat then refuseAccess s
  else respond .okay (setFilter (w.extractLsb' 0 8) (w.extractLsb' 8 8) s)

/-- Write of `CMD` (R103): a command runs inside the transaction, which is answered `OKAY` whatever the
outcome (R101); a reserved word reports `E_BADCMD` (R82). -/
def writeCmd (run : Instr → State → Host.Outcome State Fault Refusal) (w : Word) (s : State) :
    Host.Outcome State Fault Refusal :=
  match decodeWord w with
  | .command i => run i (respond .okay s)
  | .reserved _ => .next (report .eBadCmd (respond .okay s))

/-- A 4-byte write to an address other than `CMD` (R100). -/
def writeRegister (a : Addr) (w : Word) (s : State) : State :=
  if a = addrIbPush then pushByte w s
  else if a = addrFiltCfg then writeFiltCfg w s
  else if a = addrMetRssi then respond .okay (setMetrics { s.met with rssi := w } s)
  else if a = addrMetSnr then respond .okay (setMetrics { s.met with snr := w } s)
  else if a = addrMetFerr then respond .okay (setMetrics { s.met with ferr := w } s)
  else refuseAccess s

/-- A 1-byte write (R100, R107). -/
def writeByte (a : Addr) (v : Byte) (s : State) : State :=
  if inFx s a then respond .okay (writeFx a.toNat v s) else refuseAccess s

/-- The response to a 4-byte read (R100, R105, R106, R108, R109, R111). -/
def readRegister (s : State) (a : Addr) : Response :=
  if a = addrStatus then .okayWord (statusWord s)
  else if a = addrIbLen then .okayWord (lengthWord s.ib)
  else if a = addrWbLen then .okayWord (lengthWord s.wb)
  else if a = addrFiltCfg then .okayWord (filtCfgWord s)
  else if a = addrMetRssi then .okayWord s.met.rssi
  else if a = addrMetSnr then .okayWord s.met.snr
  else if a = addrMetFerr then .okayWord s.met.ferr
  else if a = addrPrevRssi then .okayWord s.prev.rssi
  else if a = addrPrevSnr then .okayWord s.prev.snr
  else if a = addrPrevFerr then .okayWord s.prev.ferr
  else .slverr

/-- The response to a 1-byte read (R100, R107, R110). -/
def readByte (s : State) (a : Addr) : Response :=
  if inFx s a then .okayByte (readFx s a.toNat)
  else if inWb s a then .okayByte (s.wb.getD (a.toNat - wbBase) 0)
  else .slverr

/-- One transaction (R52, R100): one atomic step, the command of a `CMD` write included (R58). -/
def transact (run : Instr → State → Host.Outcome State Fault Refusal) (t : Transaction) (s : State) :
    Host.Outcome State Fault Refusal :=
  match t with
  | .w4 a w => if a = addrCmd then writeCmd run w s else .next (writeRegister a w s)
  | .w1 a v => .next (writeByte a v s)
  | .r4 a => .next (respond (readRegister s a) s)
  | .r1 a => .next (respond (readByte s a) s)

end Sys2Proof.Machine
end

