-- ==== Sys2Proof/Machine/Inputs.lean ====
section
/-! DEFINITION. One step of the machine: the next input of the environment takes effect (R8), a command
through the argument `run`. -/

namespace Sys2Proof.Machine

/-- A `frame_irq` event after a transaction. -/
def thenIrq (o : Host.Outcome State Fault Refusal) : Host.Outcome State Fault Refusal :=
  match o with
  | .next s => .next (frameIrq s)
  | .fault r => .fault r
  | .refused r => .refused r

/-- An event and a transaction that arrive together: either order (R60, R205), drawn (assumption 4). -/
def coincide (run : Instr → State → Host.Outcome State Fault Refusal) (t : Transaction) (s : State) :
    Host.Outcome State Fault Refusal :=
  if Config.irqFirst s.draws then transact run t (frameIrq (countDraw s))
  else thenIrq (transact run t (countDraw s))

/-- What draw `n` answers to an overridden transaction: one of the two responses of its kind (R52); which of
them, and the data of a read, are drawn (assumption 5). -/
def overriddenResponse (n : Nat) (t : Transaction) : Response :=
  if Config.overriddenOkay n then okayResponse t (Config.overriddenData n) else .slverr

/-- A reset that coincides with a transaction leaves the reset state (R205, R230); the transaction has no
effect but is answered (R52). -/
def overrideTransaction (t : Transaction) (s : State) : State :=
  respond (overriddenResponse s.draws t) (resetBlock (countDraw s))

/-- The first pending input takes effect; with none, the block is quiescent (R245, assumption 2). -/
def advance (run : Instr → State → Host.Outcome State Fault Refusal) (s : State) :
    Host.Outcome State Fault Refusal :=
  match s.inputs with
  | [] => .next s
  | .transaction t :: rest => transact run t (setInputs rest s)
  | .frameIrq :: rest => .next (frameIrq (setInputs rest s))
  | .reset :: rest => .next (resetBlock (setInputs rest s))
  | .irqWith t :: rest => coincide run t (setInputs rest s)
  | .resetWith t :: rest => .next (overrideTransaction t (setInputs rest s))

/-- The host's next transaction is a write of the word `w` to `CMD`. -/
def placeCommand (w : Word) (s : State) : State :=
  setInputs (.transaction (.w4 addrCmd w) :: s.inputs) s

end Sys2Proof.Machine
end

