-- ==== Sys2Proof/Machine/Step.lean ====
section
/-! DEFINITION. The step function, and the placing of a command where the next step runs it. -/

namespace Sys2Proof.Machine

/-- One step (R8). -/
def step (s : State) : Host.Outcome State Fault Refusal := advance exec s

/-- `s` with the command word as the data of the host's next `CMD` write (assumption 2). -/
def State.withFetchWord (s : State) (nbits w : Nat) : State := placeCommand (tableWord nbits w) s

end Sys2Proof.Machine
end

