-- ==== Sys2Proof/Machine/Script.lean ====
section
/-! DEFINITION. The host-script notation (R91): lines and pseudo-instructions as inputs of the machine. -/

namespace Sys2Proof.Machine

/-- `wr REG, v`. -/
def scriptWr (reg : Addr) (v : Word) : Input := .transaction (.w4 reg v)

/-- `rd REG`. -/
def scriptRd (reg : Addr) : Input := .transaction (.r4 reg)

/-- `wrb A, v`. -/
def scriptWrb (a : Addr) (v : Byte) : Input := .transaction (.w1 a v)

/-- `rdb A`. -/
def scriptRdb (a : Addr) : Input := .transaction (.r1 a)

/-- `cmd X`. -/
def scriptCmd (i : Instr) : Input := scriptWr addrCmd (encodeWord i)

/-- `push b`. -/
def scriptPush (b : Byte) : Input := scriptWr addrIbPush (b.setWidth 32)

/-- `load b0 b1 ... bk`. -/
def scriptLoad (bytes : List Byte) : List Input := scriptCmd .clr :: bytes.map scriptPush

/-- `filt_set len, off, e0 ... e(len-1)`: the bytes before the length. -/
def scriptFiltSet (off : Byte) (expected : List Byte) : List Input :=
  expected.mapIdx (fun i e => scriptWrb (BitVec.ofNat 12 (fxBase + i)) e) ++
    [scriptWr addrFiltCfg ((0 : BitVec 16) ++ off ++ BitVec.ofNat 8 expected.length)]

/-- `met r, s, f`. -/
def scriptMet (m : Metrics) : List Input :=
  [scriptWr addrMetRssi m.rssi, scriptWr addrMetSnr m.snr, scriptWr addrMetFerr m.ferr]

/-- `readout` of a result of `n` bytes. -/
def scriptReadout (n : Nat) : List Input :=
  scriptRd addrWbLen :: (List.range n).map (fun i => scriptRdb (BitVec.ofNat 12 (wbBase + i)))

end Sys2Proof.Machine
end

