-- ==== Sys2Proof/Machine/Reference.lean ====
section
/-! DEFINITION. Mathematical functions the spec gives beside the operations of the block, none of which the
block performs (R4): the generator polynomial (R124), the reference encoder (R126), the reference
interleaver (R133) and the reference decoding algorithm (R130, informative).

A polynomial is a list of coefficients, highest power first in the encoder (R125) and lowest power first in
the decoding algorithm. -/

namespace Sys2Proof.Machine

/-! ### Generator and encoder -/

/-- Product of a polynomial, highest power first, and `x + r`. -/
def timesRoot (poly : BitVec 9) (r : Byte) (g : List Byte) : List Byte :=
  List.zipWith gfAdd (g ++ [0]) (0 :: g.map (gfMul poly r))

/-- `g(x)` (R124), highest power first. -/
def generator (p : Params) : List Byte :=
  (List.range p.npar).foldl (fun g j => timesRoot p.gfPoly (codeRoot p j) g) [0x01]

/-- One step of the division by `g(x)`: the remainder of `r(x) x + b x^NPAR`. -/
def divideStep (p : Params) (r : List Byte) (b : Byte) : List Byte :=
  let q := gfAdd (r.headD 0) b
  List.zipWith gfAdd (r.tail ++ [0]) ((generator p).tail.map (gfMul p.gfPoly q))

/-- The `NPAR` coefficients of `(M(x) x^NPAR) mod g(x)` (R126). -/
def parity (p : Params) (m : List Byte) : List Byte :=
  m.foldl (divideStep p) (List.replicate p.npar 0)

/-- `encode(m)` (R126). -/
def encode (p : Params) (m : List Byte) : List Byte := m ++ parity p m

/-! ### Interleaver -/

/-- Which index of the input each position of `deint`'s output comes from. -/
def deintMap (p : Params) (n : Nat) : List Nat := deint p.rows p.cols (List.range n)

/-- `inter(x)` (R133): the sequence whose element at index `deintMap[j]` is `x[j]`. -/
def inter (p : Params) (x : List Byte) : List Byte :=
  (List.range x.length).map (fun k => x.getD ((deintMap p x.length).idxOf k) 0)

/-! ### The reference decoding algorithm -/

/-- Sum of two polynomials, lowest power first. -/
def polyAdd : List Byte → List Byte → List Byte
  | [], b => b
  | a, [] => a
  | x :: a, y :: b => gfAdd x y :: polyAdd a b

/-- `c x^m a(x)`. -/
def polyShiftScale (poly : BitVec 9) (c : Byte) (m : Nat) (a : List Byte) : List Byte :=
  List.replicate m 0 ++ a.map (gfMul poly c)

/-- Product of two polynomials, lowest power first. -/
def polyMul (poly : BitVec 9) : List Byte → List Byte → List Byte
  | [], _ => []
  | x :: a, b => polyAdd (b.map (gfMul poly x)) (0 :: polyMul poly a b)

/-- Value of a polynomial, lowest power first. -/
def polyEval (poly : BitVec 9) (a : List Byte) (x : Byte) : Byte := gfHorner poly x a.reverse

/-- Formal derivative: the odd-power terms, one power lower. -/
def polyDerivative (a : List Byte) : List Byte :=
  a.tail.mapIdx (fun i c => if i % 2 = 0 then c else 0)

/-- Degree, 0 for a constant. -/
def polyDegree (a : List Byte) : Nat := (a.reverse.dropWhile (fun c => c == 0)).length - 1

/-- The running data of Berlekamp-Massey. -/
structure MasseyState where
  lambda   : List Byte   -- the current locator polynomial
  backup   : List Byte   -- the locator polynomial before the last length change
  regLen   : Nat         -- the register length
  gap      : Nat         -- steps since the last length change
  lastDisc : Byte        -- the discrepancy at the last length change
  deriving DecidableEq, Repr

/-- The discrepancy at step `n`: `sum over i <= regLen of lambda_i S_{n-i}`. -/
def discrepancy (poly : BitVec 9) (syn : List Byte) (st : MasseyState) (n : Nat) : Byte :=
  (List.range (min st.regLen n + 1)).foldl
    (fun d i => gfAdd d (gfMul poly (st.lambda.getD i 0) (syn.getD (n - i) 0))) 0

/-- One step of Berlekamp-Massey. -/
def masseyStep (poly : BitVec 9) (syn : List Byte) (st : MasseyState) (n : Nat) : MasseyState :=
  let d := discrepancy poly syn st n
  if d = 0 then { st with gap := st.gap + 1 }
  else
    let next := polyAdd st.lambda
      (polyShiftScale poly (gfMul poly d (gfInv poly st.lastDisc)) st.gap st.backup)
    if 2 * st.regLen ≤ n then
      { lambda := next, backup := st.lambda, regLen := n + 1 - st.regLen, gap := 1, lastDisc := d }
    else { st with lambda := next, gap := st.gap + 1 }

/-- Step 2 of R130: the error-locator polynomial and the register length. -/
def berlekampMassey (p : Params) (syn : List Byte) : MasseyState :=
  (List.range p.npar).foldl (masseyStep p.gfPoly syn)
    { lambda := [0x01], backup := [0x01], regLen := 0, gap := 1, lastDisc := 0x01 }

/-- Step 3 of R130: the positions whose inverse locator is a root of the locator polynomial. -/
def chienSearch (p : Params) (len : Nat) (lambda : List Byte) : List Nat :=
  (List.range len).filter
    (fun i => polyEval p.gfPoly lambda (gfInv p.gfPoly (locator p len i)) == 0)

/-- Step 4 of R130: the error value at position `i`, none where the derivative vanishes. -/
def forneyValue (p : Params) (len : Nat) (lambda omega : List Byte) (i : Nat) : Option Byte :=
  let x := locator p len i
  let xInv := gfInv p.gfPoly x
  let d := polyEval p.gfPoly (polyDerivative lambda) xInv
  if d = 0 then none
  else some (gfMul p.gfPoly (gfPow p.gfPoly x ((256 - p.fcr) % 255))
    (gfMul p.gfPoly (polyEval p.gfPoly omega xInv) (gfInv p.gfPoly d)))

/-- Steps 2 to 4 of R130: the corrected word. -/
def referenceCorrect (p : Params) (w : List Byte) : Option (List Byte) :=
  let syn := syndromes p w
  let bm := berlekampMassey p syn
  let v := polyDegree bm.lambda
  let positions := chienSearch p w.length bm.lambda
  let omega := (polyMul p.gfPoly syn bm.lambda).take p.npar
  if tCorr p < v ∨ v ≠ bm.regLen ∨ positions.length ≠ v then none
  else (positions.mapM (forneyValue p w.length bm.lambda omega)).map
    (fun errors => addErrors w (List.zip positions errors))

/-- The algorithm of R130 on a word of any length, steps 1, 5 and 6 here. -/
def referenceDecode (p : Params) (w : List Byte) : Except ResultCode (List Byte) :=
  if !lengthLegal p w.length then .error .eLength
  else if allZero (syndromes p w) then .ok (w.take (w.length - p.npar))
  else match referenceCorrect p w with
    | none => .error .uncorrectable
    | some c =>
      if isCodeword p c && decide (wordDist c w ≤ tCorr p) then .ok (c.take (w.length - p.npar))
      else .error .uncorrectable

end Sys2Proof.Machine
end

