-- ==== Sys2Proof/Safety.lean ====
section
/-! DEFINITION. What claims are stated in: the invariant of the reachable states (R37, R25, R28), which
inputs carry a command or a reset, the list of illegal accesses (R55), and the contract of the decoder
(R128). -/

namespace Sys2Proof.Machine

/-- What holds in every state reachable from construction: R6 for the parameters, the bounds of R37, the
canonical form of the byte storage and its place in the address space (R51), and R28 for the tracker's
store before its first write. -/
structure State.Inv (s : State) : Prop where
  params : s.params.wf = true
  ib : s.ib.length ≤ s.params.bufMax
  wb : s.wb.length ≤ s.params.bufMax
  filtLen : s.filtLen.toNat ≤ s.params.filtMax
  fxForm : Memory.wf s.fx
  fxPlace : ∀ c ∈ s.fx, fxBase ≤ c.1 ∧ c.1 < fxBase + s.params.filtMax
  prev : s.prevValid = false → s.prev = Metrics.zero ∧ s.params.trkReset = .invalid

/-- Two states agree in every component of the block (R20); parameters and environment may differ. -/
def State.sameBlock (s t : State) : Prop :=
  s.ib = t.ib ∧ s.wb = t.wb ∧ s.filtLen = t.filtLen ∧ s.filtOff = t.filtOff ∧ s.fx = t.fx ∧
  s.met = t.met ∧ s.prev = t.prev ∧ s.prevValid = t.prevValid ∧ s.frameReady = t.frameReady ∧
  s.irqEn = t.irqEn ∧ s.dupSuspected = t.dupSuspected ∧ s.result = t.result

/-- The reset values of R36, for the parameters `p`. -/
structure IsResetState (p : Params) (t : State) : Prop where
  ib : t.ib = []
  wb : t.wb = []
  filtLen : t.filtLen = 0
  filtOff : t.filtOff = 0
  fx : ∀ a, readFx t a = 0
  met : t.met = { rssi := 0, snr := 0, ferr := 0 }
  invalid : p.trkReset = .invalid → t.prevValid = false ∧ t.prev = { rssi := 0, snr := 0, ferr := 0 }
  valid : ∀ m, p.trkReset = .valid m → t.prevValid = true ∧ t.prev = m
  frameReady : t.frameReady = false
  irqEn : t.irqEn = false
  dupSuspected : t.dupSuspected = false
  result : t.result = .ok

/-! ### What an input is -/

/-- The transaction `t`, alone or with a coinciding event. -/
abbrev Input.performs (h : Input) (t : Transaction) : Prop := h = .transaction t ∨ h = .irqWith t

/-- A write of the word `w` to `CMD`, alone or with a coinciding event. -/
abbrev Input.writesCmd (h : Input) (w : Word) : Prop := h.performs (.w4 addrCmd w)

/-- A write of the command `i` to `CMD`, alone or with a coinciding event. -/
abbrev Input.runs (h : Input) (i : Instr) : Prop := h.writesCmd (encodeWord i)

/-- A reset, alone or with a coinciding transaction. -/
abbrev Input.resets (h : Input) : Prop := h = .reset ∨ ∃ t, h = .resetWith t

/-- A `frame_irq` event, alone or with a coinciding transaction. -/
abbrev Input.interrupts (h : Input) : Prop := h = .frameIrq ∨ ∃ t, h = .irqWith t

/-! ### The list of R55 -/

/-- The accesses that R55 lists as refused. -/
def Transaction.illegal (t : Transaction) (s : State) : Prop :=
  match t with
  | .r4 a => a ∉ [addrStatus, addrIbLen, addrWbLen, addrFiltCfg, addrMetRssi, addrMetSnr, addrMetFerr,
      addrPrevRssi, addrPrevSnr, addrPrevFerr]
  | .w4 a w => a ∉ [addrCmd, addrIbPush, addrFiltCfg, addrMetRssi, addrMetSnr, addrMetFerr] ∨
      (a = addrFiltCfg ∧ s.params.filtMax < (w.extractLsb' 0 8).toNat) ∨
      (a = addrIbPush ∧ s.ib.length = s.params.bufMax)
  | .r1 a => ¬ (0x080 ≤ a.toNat ∧ a.toNat < 0x080 + s.params.filtMax) ∧
      ¬ (0x200 ≤ a.toNat ∧ a.toNat < 0x200 + s.wb.length)
  | .w1 a _ => ¬ (0x080 ≤ a.toNat ∧ a.toNat < 0x080 + s.params.filtMax)

/-! ### The decoder's contract -/

/-- `c` is a codeword of `w`'s length within `T_CORR` of `w` (R128). -/
def IsCorrection (p : Params) (w c : List Byte) : Prop :=
  c.length = w.length ∧ isCodeword p c = true ∧ wordDist c w ≤ tCorr p

end Sys2Proof.Machine
end

