-- ==== Sys2Proof/Certificates/Slice0/Obligations.lean ====
section
/-! DEFINITION. The statements for the provers. Each docstring names the rule it formalises. Statements
over every state hold for every instantiation of the parameters, since State carries them (assumption 1). -/

open Sys2Proof Sys2Proof.Machine

/-! ### Reset and construction -/

/-- R36, R230: a reset, also one that coincides with a transaction, leaves the reset state from any state;
power-up is a reset. The response to an overridden transaction is CoincidingTransactionIsAnswered's. -/
def Obligations.ResetLeavesTheResetState : Prop :=
  (∀ (s : State) (h : Input) (rest : List Input), s.inputs = h :: rest → h.resets →
    ∃ t, step s = .next t ∧ IsResetState s.params t ∧ t.params = s.params ∧ t.inputs = rest) ∧
  (∀ (p : Params) (t : State), construct p = .next t → IsResetState p t ∧ t.params = p)

/-- R6: construction answers a machine for exactly the legal instantiations and refuses every other; the
derived constants. -/
def Obligations.ConstructionChecksTheParameters : Prop :=
  ∀ p : Params,
    ((1 ≤ p.rows ∧ 1 ≤ p.cols ∧ 1 ≤ p.npar ∧ 1 ≤ p.kMsg ∧ p.kMsg + p.npar ≤ 255 ∧
        0x101 ≤ p.gfPoly.toNat ∧ p.gfPoly.toNat ≤ 0x1FF ∧ p.gfPoly.getLsbD 0 = true ∧
        (∀ i j : Nat, i < j → j < 255 → gfPow p.gfPoly 0x02 i ≠ gfPow p.gfPoly 0x02 j) ∧
        p.fcr ≤ 254 ∧ 1 ≤ p.bufMax ∧ p.bufMax ≤ 3584 ∧ p.filtMax ≤ 128) →
      construct p = .next (State.powerUp p)) ∧
    (¬ (1 ≤ p.rows ∧ 1 ≤ p.cols ∧ 1 ≤ p.npar ∧ 1 ≤ p.kMsg ∧ p.kMsg + p.npar ≤ 255 ∧
        0x101 ≤ p.gfPoly.toNat ∧ p.gfPoly.toNat ≤ 0x1FF ∧ p.gfPoly.getLsbD 0 = true ∧
        (∀ i j : Nat, i < j → j < 255 → gfPow p.gfPoly 0x02 i ≠ gfPow p.gfPoly 0x02 j) ∧
        p.fcr ≤ 254 ∧ 1 ≤ p.bufMax ∧ p.bufMax ≤ 3584 ∧ p.filtMax ≤ 128) →
      construct p = .refused .illegalParameters) ∧
    blockSize p = p.rows * p.cols ∧ tCorr p = p.npar / 2

/-! ### Commands and their encoding -/

/-- R103: a step whose input is a `CMD` write of a word that decodes to a command is that command's meaning
at the state in which the input is consumed and the response `OKAY` recorded (assumption 2). -/
def Obligations.StepRunsTheDecodedCommand : Prop :=
  ∀ (s : State) (w : Word) (i : Instr) (rest : List Input),
    s.inputs = .transaction (.w4 0x000 w) :: rest → decodeWord w = .command i →
    step s = exec i { s with inputs := rest, responses := .okay :: s.responses }

/-- R82: every word that is no command's encoding is answered `OKAY`, sets `RESULT` to `E_BADCMD` and
changes nothing else. -/
def Obligations.ReservedWordReportsBadCommand : Prop :=
  ∀ (s : State) (w : Word) (rest : List Input),
    s.inputs = .transaction (.w4 0x000 w) :: rest → (w.toNat = 0 ∨ 0x0A < w.toNat) →
    step s = .next { s with inputs := rest, responses := .okay :: s.responses, result := .eBadCmd }

/-- R81: a word decodes to a command exactly when it is the command's `match` value. -/
def Obligations.CommandWordsDecodeExactly : Prop :=
  (∀ (w : Word) (i : Instr), decodeWord w = .command i ↔ w = encodeWord i) ∧
  encodeWord .clr = 0x00000001 ∧ encodeWord .copy = 0x00000002 ∧ encodeWord .deint = 0x00000003 ∧
  encodeWord .strip = 0x00000004 ∧ encodeWord .rsdec = 0x00000005 ∧ encodeWord .decode = 0x00000006 ∧
  encodeWord .filt = 0x00000007 ∧ encodeWord .trk = 0x00000008 ∧ encodeWord .begin_ = 0x00000009 ∧
  encodeWord .rearm = 0x0000000A

/-- R81, R82: one word of each family written out bit by bit, and the reserved words that R82 names. -/
def Obligations.SpecWordsDecode : Prop :=
  decodeWord 0b00000000000000000000000000000001 = .command .clr ∧
  decodeWord 0b00000000000000000000000000000110 = .command .decode ∧
  decodeWord 0b00000000000000000000000000000111 = .command .filt ∧
  decodeWord 0b00000000000000000000000000001010 = .command .rearm ∧
  decodeWord 0x00000000 = .reserved .unknownOpcode ∧
  decodeWord 0x0000000B = .reserved .unknownOpcode ∧
  decodeWord 0x00000106 = .reserved .nonzeroHighBits

/-! ### The meaning of each command -/

/-- R112: CLR. -/
def Obligations.ClrEmptiesTheInputBuffer : Prop :=
  ∀ s : State, exec .clr s = .next { s with ib := [], result := .ok }

/-- R113: COPY. -/
def Obligations.CopyMovesTheFrame : Prop :=
  ∀ s : State, exec .copy s = .next { s with wb := s.ib, result := .ok }

/-- R135: DEINT, which cannot fail and keeps the length. -/
def Obligations.DeintCompletes : Prop :=
  ∀ s : State,
    exec .deint s = .next { s with wb := deint s.params.rows s.params.cols s.ib, result := .ok } ∧
    (1 ≤ s.params.rows → 1 ≤ s.params.cols →
      (deint s.params.rows s.params.cols s.ib).length = s.ib.length ∧
      (s.params.rows = 1 ∨ s.params.cols = 1 → deint s.params.rows s.params.cols s.ib = s.ib))

/-- R136: STRIP shortens `WB` to the length of `strip` and modifies no byte of it. -/
def Obligations.StripShortensTheWorkBuffer : Prop :=
  ∀ s : State, exec .strip s = .next { s with wb := s.wb.take (strip s.wb).length, result := .ok } ∧
    s.wb.take (strip s.wb).length = strip s.wb

/-- R137: RSDEC, by what `rs_decode` answers. -/
def Obligations.RsdecCompletes : Prop :=
  ∀ s : State,
    (∀ m, rsDecode s.params s.wb = .ok m → exec .rsdec s = .next { s with wb := m, result := .ok }) ∧
    (∀ code, rsDecode s.params s.wb = .error code →
      exec .rsdec s = .next { s with wb := [], result := code })

/-- R138: DECODE, by what `rs_decode` answers on the de-interleaved and stripped frame. -/
def Obligations.DecodeCompletes : Prop :=
  ∀ s : State,
    (∀ m, rsDecode s.params (strip (deint s.params.rows s.params.cols s.ib)) = .ok m →
      exec .decode s = .next { s with wb := m, result := .ok }) ∧
    (∀ code, rsDecode s.params (strip (deint s.params.rows s.params.cols s.ib)) = .error code →
      exec .decode s = .next { s with wb := [], result := code })

/-- R138: DECODE leaves exactly the state that DEINT, STRIP and RSDEC leave in that order. -/
def Obligations.DecodeEqualsTheThreeStages : Prop :=
  ∀ s : State, ∃ s1 s2 s3, exec .deint s = .next s1 ∧ exec .strip s1 = .next s2 ∧
    exec .rsdec s2 = .next s3 ∧ exec .decode s = .next s3

/-- R161: FILT. -/
def Obligations.FiltReportsThePredicate : Prop :=
  ∀ s : State,
    (filterPass s.wb s.filtLen.toNat s.filtOff.toNat (fun i => readFx s (0x080 + i)) = true →
      exec .filt s = .next { s with result := .ok }) ∧
    (filterPass s.wb s.filtLen.toNat s.filtOff.toNat (fun i => readFx s (0x080 + i)) = false →
      exec .filt s = .next { s with result := .filterRejected })

/-- R180, R181: TRK. -/
def Obligations.TrkDetectsDuplicates : Prop :=
  ∀ s : State,
    (s.prevValid = true ∧ s.met.rssi = s.prev.rssi ∧ s.met.snr = s.prev.snr ∧ s.met.ferr = s.prev.ferr →
      exec .trk s = .next { s with result := .spurious }) ∧
    (¬ (s.prevValid = true ∧ s.met.rssi = s.prev.rssi ∧ s.met.snr = s.prev.snr ∧ s.met.ferr = s.prev.ferr) →
      exec .trk s = .next { s with
        prev := { rssi := s.met.rssi, snr := s.met.snr, ferr := s.met.ferr },
        prevValid := true, result := .ok })

/-- R183: BEGIN. -/
def Obligations.BeginDisablesAndClears : Prop :=
  ∀ s : State, exec .begin_ s = .next { s with irqEn := false, frameReady := false, result := .ok }

/-- R184: REARM. -/
def Obligations.RearmEnables : Prop :=
  ∀ s : State, exec .rearm s = .next { s with irqEn := true, dupSuspected := false, result := .ok }

/-- R201: no command reports a code not listed for it. -/
def Obligations.CommandsReportTheirListedCodes : Prop :=
  ∀ (i : Instr) (s : State), ∃ t, exec i s = .next t ∧
    (i ∈ [.clr, .copy, .deint, .strip, .begin_, .rearm] → t.result = .ok) ∧
    (i ∈ [.rsdec, .decode] → t.result ∈ [.ok, .uncorrectable, .eLength]) ∧
    (i = .filt → t.result ∈ [.ok, .filterRejected]) ∧
    (i = .trk → t.result ∈ [.ok, .spurious])

/-- R83, the frame: what each command leaves unchanged, every byte of the address space included. -/
def Obligations.CommandsWriteOnlyTheirOperands : Prop :=
  ∀ (i : Instr) (s t : State), exec i s = .next t →
    (i ≠ .clr → t.ib = s.ib) ∧
    (i ∉ [.copy, .deint, .strip, .rsdec, .decode] → t.wb = s.wb ∧ ∀ a, readByte t a = readByte s a) ∧
    (∀ a : Addr, inFx s a = true → readByte t a = readByte s a) ∧
    t.filtLen = s.filtLen ∧ t.filtOff = s.filtOff ∧ t.fx = s.fx ∧ t.met = s.met ∧
    (i ≠ .trk → t.prev = s.prev ∧ t.prevValid = s.prevValid) ∧
    (i ≠ .begin_ → t.frameReady = s.frameReady) ∧
    (i ∉ [.begin_, .rearm] → t.irqEn = s.irqEn) ∧
    (i ≠ .rearm → t.dupSuspected = s.dupSuspected) ∧
    t.params = s.params ∧ t.inputs = s.inputs ∧ t.responses = s.responses ∧ t.draws = s.draws

/-- R34, R120, R162: what a command of the FEC and PFM units does depends on its operands alone. -/
def Obligations.CommandsDependOnTheirOperandsOnly : Prop :=
  ∀ s t : State, s.params = t.params →
    (∀ s' t', exec .deint s = .next s' → exec .deint t = .next t' → s.ib = t.ib →
      s'.wb = t'.wb ∧ s'.result = t'.result) ∧
    (∀ s' t', exec .strip s = .next s' → exec .strip t = .next t' → s.wb = t.wb →
      s'.wb = t'.wb ∧ s'.result = t'.result) ∧
    (∀ s' t', exec .rsdec s = .next s' → exec .rsdec t = .next t' → s.wb = t.wb →
      s'.wb = t'.wb ∧ s'.result = t'.result) ∧
    (∀ s' t', exec .decode s = .next s' → exec .decode t = .next t' → s.ib = t.ib →
      s'.wb = t'.wb ∧ s'.result = t'.result) ∧
    (∀ s' t', exec .filt s = .next s' → exec .filt t = .next t' → s.wb = t.wb →
      s.filtLen = t.filtLen → s.filtOff = t.filtOff →
      (∀ i < s.filtLen.toNat, readFx s (0x080 + i) = readFx t (0x080 + i)) → s'.result = t'.result)

/-! ### The interrupt input -/

/-- R182: one `frame_irq` event. -/
def Obligations.FrameIrqSetsTheFlags : Prop :=
  ∀ (s : State) (rest : List Input), s.inputs = .frameIrq :: rest →
    (s.irqEn = false → step s = .next { s with inputs := rest }) ∧
    (s.irqEn = true → s.frameReady = false → step s = .next { s with inputs := rest, frameReady := true }) ∧
    (s.irqEn = true → s.frameReady = true → step s = .next { s with inputs := rest, dupSuspected := true })

/-- R60: an event and a transaction that arrive together take effect in one of the two orders; which one is
a free value (assumption 4), and the statement holds whichever it is. -/
def Obligations.CoincidingEventTakesEitherOrder : Prop :=
  ∀ (s : State) (t : Transaction) (rest : List Input), s.inputs = .irqWith t :: rest →
    step s = core.run 2 { s with inputs := .frameIrq :: .transaction t :: rest, draws := s.draws + 1 } ∨
    step s = core.run 2 { s with inputs := .transaction t :: .frameIrq :: rest, draws := s.draws + 1 }

/-- D25 of `92_eei_decisions.md`: an event before or after any command but BEGIN and REARM gives one state. -/
def Obligations.EventsCommuteWithDataCommands : Prop :=
  ∀ (i : Instr) (s t : State), i ≠ .begin_ → i ≠ .rearm →
    exec i s = .next t → exec i (frameIrq s) = .next (frameIrq t)

/-- R234: while no REARM is written, a disabled interrupt input stays disabled and sets no flag, whatever
else the environment does. -/
def Obligations.DisabledInputStaysDeadUntilRearm : Prop :=
  ∀ (n : Nat) (s t : State), s.irqEn = false → (∀ h ∈ s.inputs.take n, ¬ h.runs .rearm) →
    core.run n s = .next t →
    t.irqEn = false ∧ (t.frameReady = true → s.frameReady = true) ∧
    (t.dupSuspected = true → s.dupSuspected = true)

/-- R185: of two successive TRK commands with no reset between that execute with equal `MET_*` triples the
second reports `SPURIOUS`, whatever else happens between them. -/
def Obligations.SecondTrackOfEqualMetricsIsSpurious : Prop :=
  ∀ (n : Nat) (s s1 s2 s3 : State) (h h' : Input) (rest rest' : List Input),
    s.inputs = h :: rest → h.runs .trk → step s = .next s1 →
    (∀ k ∈ rest.take n, ¬ k.runs .trk ∧ ¬ k.resets) → core.run n s1 = .next s2 →
    s2.inputs = h' :: rest' → h'.runs .trk → s2.met = s.met → step s2 = .next s3 →
    s3.result = .spurious

/-! ### The host port -/

/-- R104: a write of `IB_PUSH`. -/
def Obligations.PushAppendsOneByte : Prop :=
  ∀ (s : State) (w : Word) (rest : List Input), s.inputs = .transaction (.w4 0x008 w) :: rest →
    (s.ib.length = s.params.bufMax →
      step s = .next { s with inputs := rest, responses := .slverr :: s.responses }) ∧
    (s.ib.length ≠ s.params.bufMax →
      step s = .next { s with inputs := rest, responses := .okay :: s.responses,
                              ib := s.ib ++ [w.setWidth 8] })

/-- R105: the two length registers. -/
def Obligations.LengthRegistersReadTheLengths : Prop :=
  ∀ (s : State) (rest : List Input), s.Inv →
    (s.inputs = .transaction (.r4 0x00C) :: rest → ∃ v : Word, v.toNat = s.ib.length ∧
      step s = .next { s with inputs := rest, responses := .okayWord v :: s.responses }) ∧
    (s.inputs = .transaction (.r4 0x010) :: rest → ∃ v : Word, v.toNat = s.wb.length ∧
      step s = .next { s with inputs := rest, responses := .okayWord v :: s.responses }) ∧
    (∀ w : Word, s.inputs = .transaction (.w4 0x00C w) :: rest ∨ s.inputs = .transaction (.w4 0x010 w) :: rest →
      step s = .next { s with inputs := rest, responses := .slverr :: s.responses })

/-- R106: `FILT_CFG`. -/
def Obligations.FilterConfigurationRegister : Prop :=
  ∀ (s : State) (rest : List Input),
    (s.inputs = .transaction (.r4 0x014) :: rest →
      ∃ v : Word, v = (s.filtOff.setWidth 32 <<< 8) ||| s.filtLen.setWidth 32 ∧
        step s = .next { s with inputs := rest, responses := .okayWord v :: s.responses }) ∧
    (∀ w : Word, s.inputs = .transaction (.w4 0x014 w) :: rest →
      (s.params.filtMax < (w.setWidth 8).toNat →
        step s = .next { s with inputs := rest, responses := .slverr :: s.responses }) ∧
      ((w.setWidth 8).toNat ≤ s.params.filtMax →
        step s = .next { s with inputs := rest, responses := .okay :: s.responses,
                                filtLen := w.setWidth 8, filtOff := (w >>> 8).setWidth 8 }))

/-- R107: `FX[i]`: a read, and a write, after which the byte reads as written and every other as before. -/
def Obligations.ExpectedBytesReadAndWrite : Prop :=
  ∀ (s : State) (a : Addr) (rest : List Input),
    0x080 ≤ a.toNat → a.toNat < 0x080 + s.params.filtMax → Memory.wf s.fx →
    (s.inputs = .transaction (.r1 a) :: rest →
      step s = .next { s with inputs := rest, responses := .okayByte (readFx s a.toNat) :: s.responses }) ∧
    (∀ v : Byte, s.inputs = .transaction (.w1 a v) :: rest →
      ∃ m : Memory, step s = .next { s with inputs := rest, responses := .okay :: s.responses, fx := m } ∧
        Memory.wf m ∧ Memory.read m a.toNat = v ∧
        ∀ b, b ≠ a.toNat → Memory.read m b = readFx s b)

/-- R108: the three `MET_*` registers. -/
def Obligations.MetricRegistersReadAndWrite : Prop :=
  ∀ (s : State) (rest : List Input) (w : Word),
    (s.inputs = .transaction (.r4 0x018) :: rest →
      step s = .next { s with inputs := rest, responses := .okayWord s.met.rssi :: s.responses }) ∧
    (s.inputs = .transaction (.r4 0x01C) :: rest →
      step s = .next { s with inputs := rest, responses := .okayWord s.met.snr :: s.responses }) ∧
    (s.inputs = .transaction (.r4 0x020) :: rest →
      step s = .next { s with inputs := rest, responses := .okayWord s.met.ferr :: s.responses }) ∧
    (s.inputs = .transaction (.w4 0x018 w) :: rest →
      step s = .next { s with inputs := rest, responses := .okay :: s.responses,
                              met := { rssi := w, snr := s.met.snr, ferr := s.met.ferr } }) ∧
    (s.inputs = .transaction (.w4 0x01C w) :: rest →
      step s = .next { s with inputs := rest, responses := .okay :: s.responses,
                              met := { rssi := s.met.rssi, snr := w, ferr := s.met.ferr } }) ∧
    (s.inputs = .transaction (.w4 0x020 w) :: rest →
      step s = .next { s with inputs := rest, responses := .okay :: s.responses,
                              met := { rssi := s.met.rssi, snr := s.met.snr, ferr := w } })

/-- R109: the three `PREV_*` registers, read-only, at their reset value while `PREV_VALID = 0`. -/
def Obligations.PreviousMetricsAreReadOnly : Prop :=
  ∀ (s : State) (rest : List Input),
    (s.inputs = .transaction (.r4 0x024) :: rest →
      step s = .next { s with inputs := rest, responses := .okayWord s.prev.rssi :: s.responses }) ∧
    (s.inputs = .transaction (.r4 0x028) :: rest →
      step s = .next { s with inputs := rest, responses := .okayWord s.prev.snr :: s.responses }) ∧
    (s.inputs = .transaction (.r4 0x02C) :: rest →
      step s = .next { s with inputs := rest, responses := .okayWord s.prev.ferr :: s.responses }) ∧
    (∀ (a : Addr) (w : Word), a ∈ [(0x024 : Addr), 0x028, 0x02C] →
      s.inputs = .transaction (.w4 a w) :: rest →
      step s = .next { s with inputs := rest, responses := .slverr :: s.responses }) ∧
    (s.Inv → s.prevValid = false → s.prev = { rssi := 0, snr := 0, ferr := 0 })

/-- R110: a byte read of the `WB` window. -/
def Obligations.WorkBufferWindow : Prop :=
  ∀ (s : State) (a : Addr) (rest : List Input), s.params.filtMax ≤ 128 → 0x200 ≤ a.toNat →
    s.inputs = .transaction (.r1 a) :: rest →
    (∀ b, s.wb[a.toNat - 0x200]? = some b →
      step s = .next { s with inputs := rest, responses := .okayByte b :: s.responses }) ∧
    (s.wb.length ≤ a.toNat - 0x200 →
      step s = .next { s with inputs := rest, responses := .slverr :: s.responses })

/-- R111: a read of `STATUS`, with R31's places of the fields and the code numbers of R101 and R201. -/
def Obligations.StatusReadsTheFields : Prop :=
  ∀ (s : State) (rest : List Input), s.inputs = .transaction (.r4 0x004) :: rest →
    ∃ v : Word, v = s.result.bits.setWidth 32 ||| ((BitVec.ofBool s.frameReady).setWidth 32 <<< 4) |||
        ((BitVec.ofBool s.irqEn).setWidth 32 <<< 5) ||| ((BitVec.ofBool s.dupSuspected).setWidth 32 <<< 6) |||
        ((BitVec.ofBool s.prevValid).setWidth 32 <<< 7) ∧
      (s.result = .ok → v.extractLsb' 0 4 = 0) ∧
      (s.result = .spurious → v.extractLsb' 0 4 = 1) ∧
      (s.result = .filterRejected → v.extractLsb' 0 4 = 2) ∧
      (s.result = .uncorrectable → v.extractLsb' 0 4 = 3) ∧
      (s.result = .eLength → v.extractLsb' 0 4 = 4) ∧
      (s.result = .eBadCmd → v.extractLsb' 0 4 = 5) ∧
      step s = .next { s with inputs := rest, responses := .okayWord v :: s.responses }

/-- R52: every transaction is answered, and one that ends in `SLVERR` changes no state at all. -/
def Obligations.EveryTransactionIsAnswered : Prop :=
  ∀ (s : State) (t : Transaction) (rest : List Input), s.inputs = .transaction t :: rest →
    ∃ u r, step s = .next u ∧ u.responses = r :: s.responses ∧ u.inputs = rest ∧
      (r = .slverr → u = { s with inputs := rest, responses := .slverr :: s.responses }) ∧
      (match t with
        | .r4 _ => r = .slverr ∨ ∃ v, r = .okayWord v
        | .r1 _ => r = .slverr ∨ ∃ v, r = .okayByte v
        | .w4 _ _ => r = .slverr ∨ r = .okay
        | .w1 _ _ => r = .slverr ∨ r = .okay)

/-- R55: the accesses listed there are answered `SLVERR` with no state change; every other is answered
`OKAY`. -/
def Obligations.RefusedAccessesAreExactlyTheListed : Prop :=
  ∀ (s : State) (t : Transaction) (rest : List Input), s.inputs = .transaction t :: rest →
    (t.illegal s → step s = .next { s with inputs := rest, responses := .slverr :: s.responses }) ∧
    (¬ t.illegal s → ∃ u r, step s = .next u ∧ u.responses = r :: s.responses ∧ r ≠ .slverr)

/-- R57: no read has a side effect. -/
def Obligations.ReadsChangeNothing : Prop :=
  ∀ (s : State) (a : Addr) (rest : List Input),
    (s.inputs = .transaction (.r4 a) :: rest →
      ∃ r, step s = .next { s with inputs := rest, responses := r :: s.responses }) ∧
    (s.inputs = .transaction (.r1 a) :: rest →
      ∃ r, step s = .next { s with inputs := rest, responses := r :: s.responses })

/-- R102: for every state and every data word, a write to `CMD` is answered `OKAY` and leaves the state that
the rule selected by the word defines: R112, R113, R135 to R138, R161, R181, R183, R184, or R82. -/
def Obligations.CommandWritesAlwaysComplete : Prop :=
  ∀ (s a : State) (w : Word) (rest : List Input), s.inputs = .transaction (.w4 0x000 w) :: rest →
    a = { s with inputs := rest, responses := .okay :: s.responses } →
    ∃ u, step s = .next u ∧ u.responses = .okay :: s.responses ∧ u.inputs = rest ∧
      (w = 0x01 → u = { a with ib := [], result := .ok }) ∧
      (w = 0x02 → u = { a with wb := s.ib, result := .ok }) ∧
      (w = 0x03 → u = { a with wb := deint s.params.rows s.params.cols s.ib, result := .ok }) ∧
      (w = 0x04 → u = { a with wb := s.wb.take (strip s.wb).length, result := .ok }) ∧
      (w = 0x05 →
        (∀ m, rsDecode s.params s.wb = .ok m → u = { a with wb := m, result := .ok }) ∧
        (∀ code, rsDecode s.params s.wb = .error code → u = { a with wb := [], result := code })) ∧
      (w = 0x06 →
        (∀ m, rsDecode s.params (strip (deint s.params.rows s.params.cols s.ib)) = .ok m →
          u = { a with wb := m, result := .ok }) ∧
        (∀ code, rsDecode s.params (strip (deint s.params.rows s.params.cols s.ib)) = .error code →
          u = { a with wb := [], result := code })) ∧
      (w = 0x07 →
        (filterPass s.wb s.filtLen.toNat s.filtOff.toNat (fun i => readFx s (0x080 + i)) = true →
          u = { a with result := .ok }) ∧
        (filterPass s.wb s.filtLen.toNat s.filtOff.toNat (fun i => readFx s (0x080 + i)) = false →
          u = { a with result := .filterRejected })) ∧
      (w = 0x08 →
        (s.prevValid = true ∧ s.met = s.prev → u = { a with result := .spurious }) ∧
        (¬ (s.prevValid = true ∧ s.met = s.prev) →
          u = { a with prev := s.met, prevValid := true, result := .ok })) ∧
      (w = 0x09 → u = { a with irqEn := false, frameReady := false, result := .ok }) ∧
      (w = 0x0A → u = { a with irqEn := true, dupSuspected := false, result := .ok }) ∧
      (w.toNat = 0 ∨ 0x0A < w.toNat → u = { a with result := .eBadCmd })

/-! ### Whole-machine rules -/

/-- R245: no state is stuck. -/
def Obligations.NoStateIsStuck : Prop := ∀ s : State, ∃ t, step s = .next t

/-- R37: every step keeps the invariant of the reachable states. -/
def Obligations.StepKeepsTheInvariant : Prop :=
  ∀ s t : State, s.Inv → step s = .next t → t.Inv

/-- R37: the invariant holds after construction with legal parameters, and at reset with REF (assumption 1). -/
def Obligations.ResetSatisfiesTheInvariant : Prop :=
  (∀ p : Params, p.wf = true → (State.powerUp p).Inv) ∧ State.reset.Inv

/-- R34: no step changes a parameter. -/
def Obligations.ParametersNeverChange : Prop :=
  ∀ s t : State, step s = .next t → t.params = s.params

/-- R38: which step may write which state; a byte `FX[i]` and each of the three `MET_*` only by the write of
its own address. -/
def Obligations.StepsWriteByTheMatrix : Prop :=
  ∀ (s t : State) (h : Input) (rest : List Input), s.inputs = h :: rest → step s = .next t →
    (t.ib ≠ s.ib → (∃ w, h.performs (.w4 0x008 w) ∧ t.ib = s.ib ++ [w.setWidth 8]) ∨
      (h.runs .clr ∧ t.ib = []) ∨ h.resets) ∧
    (t.wb ≠ s.wb → h.runs .copy ∨ h.runs .deint ∨ (h.runs .strip ∧ t.wb <+: s.wb) ∨ h.runs .rsdec ∨ h.runs .decode ∨ h.resets) ∧
    (t.filtLen ≠ s.filtLen ∨ t.filtOff ≠ s.filtOff → (∃ w, h.performs (.w4 0x014 w)) ∨ h.resets) ∧
    (t.fx ≠ s.fx → (∃ (a : Addr) (v : Byte), 0x080 ≤ a.toNat ∧ a.toNat < 0x080 + s.params.filtMax ∧
      h.performs (.w1 a v)) ∨ h.resets) ∧
    (∀ b : Nat, readFx t b ≠ readFx s b → (∃ (a : Addr) (v : Byte), a.toNat = b ∧ 0x080 ≤ b ∧
      b < 0x080 + s.params.filtMax ∧ h.performs (.w1 a v)) ∨ h.resets) ∧
    (t.met.rssi ≠ s.met.rssi → (∃ w, h.performs (.w4 0x018 w)) ∨ h.resets) ∧
    (t.met.snr ≠ s.met.snr → (∃ w, h.performs (.w4 0x01C w)) ∨ h.resets) ∧
    (t.met.ferr ≠ s.met.ferr → (∃ w, h.performs (.w4 0x020 w)) ∨ h.resets) ∧
    (t.prev ≠ s.prev ∨ t.prevValid ≠ s.prevValid → h.runs .trk ∨ h.resets) ∧
    (t.frameReady ≠ s.frameReady →
      (t.frameReady = true ∧ h.interrupts) ∨ (t.frameReady = false ∧ (h.runs .begin_ ∨ h.resets))) ∧
    (t.irqEn ≠ s.irqEn →
      (t.irqEn = true ∧ h.runs .rearm) ∨ (t.irqEn = false ∧ (h.runs .begin_ ∨ h.resets))) ∧
    (t.dupSuspected ≠ s.dupSuspected →
      (t.dupSuspected = true ∧ h.interrupts) ∨ (t.dupSuspected = false ∧ (h.runs .rearm ∨ h.resets))) ∧
    (t.result ≠ s.result → (∃ w, h.writesCmd w) ∨ h.resets)

/-! ### De-interleaver and strip -/

/-- R131: in a full block, output position `s + j` holds input position `s + (j mod C) R + (j div C)`. -/
def Obligations.DeintOfAFullBlock : Prop :=
  ∀ (rows cols b j : Nat) (x : List Byte), j < rows * cols → (b + 1) * (rows * cols) ≤ x.length →
    (deint rows cols x)[b * (rows * cols) + j]? =
      x[b * (rows * cols) + (j % cols) * rows + j / cols]?

/-- R132: `deint` permutes its input, for every length; in a last block of `m < B` bytes the reader skips
the cells whose write step is at least `m`. -/
def Obligations.DeintPermutesAndSkipsMissingCells : Prop :=
  ∀ (rows cols : Nat) (x : List Byte), 1 ≤ rows → 1 ≤ cols →
    (deint rows cols x).Perm x ∧
    deint rows cols x =
      deint rows cols (x.take (x.length / (rows * cols) * (rows * cols))) ++
        (List.range (rows * cols)).filterMap (fun j =>
          if (j % cols) * rows + j / cols < x.length % (rows * cols)
          then x[x.length / (rows * cols) * (rows * cols) + ((j % cols) * rows + j / cols)]? else none)

/-- R133: `inter(x)` is the one sequence of its length that `deint` takes to `x`; on whole blocks it is the
plain block interleaver. -/
def Obligations.InterIsTheInverseOfDeint : Prop :=
  ∀ (p : Params) (x : List Byte), 1 ≤ p.rows → 1 ≤ p.cols →
    (inter p x).length = x.length ∧ deint p.rows p.cols (inter p x) = x ∧
    (∀ y : List Byte, y.length = x.length → deint p.rows p.cols y = x → y = inter p x) ∧
    (∀ b k : Nat, x.length % (p.rows * p.cols) = 0 → k < p.rows * p.cols →
      (b + 1) * (p.rows * p.cols) ≤ x.length →
      (inter p x)[b * (p.rows * p.cols) + k]? =
        x[b * (p.rows * p.cols) + (k % p.rows) * p.cols + k / p.rows]?)

/-- R134: `strip` cuts just before the last sentinel, and leaves a sequence without one unchanged. -/
def Obligations.StripCutsAtTheLastSentinel : Prop :=
  (∀ d fill : List Byte, 0xFF ∉ fill → strip (d ++ 0xFF :: fill) = d) ∧
  (∀ d : List Byte, 0xFF ∉ d → strip d = d)

/-! ### Arithmetic and code -/

/-- R121, R122: the laws of addition and of multiplication, and the worked products. -/
def Obligations.MultiplicationIsACommutativeRing : Prop :=
  (∀ a b c : Byte,
    gfAdd a b = a ^^^ b ∧ gfAdd a 0x00 = a ∧ gfAdd a a = 0x00 ∧ gfAdd a b = gfAdd b a ∧
    gfAdd (gfAdd a b) c = gfAdd a (gfAdd b c)) ∧
  (∀ p : Params, p.wf = true → ∀ a b c : Byte,
    gfMul p.gfPoly a b = gfMul p.gfPoly b a ∧
    gfMul p.gfPoly (gfMul p.gfPoly a b) c = gfMul p.gfPoly a (gfMul p.gfPoly b c) ∧
    gfMul p.gfPoly a (gfAdd b c) = gfAdd (gfMul p.gfPoly a b) (gfMul p.gfPoly a c) ∧
    gfMul p.gfPoly a 0 = 0 ∧ gfMul p.gfPoly a 1 = a) ∧
  gfMul 0x11D 0x80 0x02 = 0x1D ∧ gfMul 0x11D 0x53 0xCA = 0x8F ∧ gfMul 0x11D 0xFF 0xFF = 0xE2

/-- R123: the 255 powers of `ALPHA` are the nonzero elements, each once; power 255 is 1; every nonzero
element has the one inverse `gf_pow(a, 254)`. -/
def Obligations.AlphaGeneratesAndInversesExist : Prop :=
  ∀ p : Params, p.wf = true →
    (∀ i < 255, gfPow p.gfPoly alpha i ≠ 0) ∧
    (∀ b : Byte, b ≠ 0 → ∃ i < 255, gfPow p.gfPoly alpha i = b ∧
      ∀ j < 255, gfPow p.gfPoly alpha j = b → j = i) ∧
    gfPow p.gfPoly alpha 255 = 0x01 ∧
    (∀ a : Byte, a ≠ 0 → gfInv p.gfPoly a = gfPow p.gfPoly a 254 ∧
      ∀ b : Byte, gfMul p.gfPoly a b = 0x01 ↔ b = gfInv p.gfPoly a)

/-- R124: `g(x)` is monic of degree `NPAR` and has the `NPAR` distinct roots. -/
def Obligations.GeneratorHasTheConsecutiveRoots : Prop :=
  ∀ p : Params, p.wf = true →
    (generator p).length = p.npar + 1 ∧ (generator p).head? = some 0x01 ∧
    (∀ j < p.npar, gfHorner p.gfPoly (gfPow p.gfPoly alpha (p.fcr + j)) (generator p) = 0) ∧
    (∀ i j, i < p.npar → j < p.npar →
      gfPow p.gfPoly alpha (p.fcr + i) = gfPow p.gfPoly alpha (p.fcr + j) → i = j)

/-- R126: `encode(m)` is a codeword that begins with `m`, and the only one of its length. -/
def Obligations.EncodeGivesTheOnlyCodeword : Prop :=
  ∀ (p : Params) (m : List Byte), p.wf = true → 1 ≤ m.length → m.length ≤ p.kMsg →
    (encode p m).length = m.length + p.npar ∧ m <+: encode p m ∧ isCodeword p (encode p m) = true ∧
    ∀ c : List Byte, c.length = m.length + p.npar → m <+: c → isCodeword p c = true → c = encode p m

/-- R129: two distinct codewords of one legal length differ in at least `NPAR + 1` positions. -/
def Obligations.CodewordsAreFarApart : Prop :=
  ∀ (p : Params) (c d : List Byte), p.wf = true → lengthLegal p c.length = true → d.length = c.length →
    isCodeword p c = true → isCodeword p d = true → c ≠ d → p.npar + 1 ≤ wordDist c d

/-- R128: the decoder meets its contract, for every legal instantiation and every word. -/
def Obligations.RsDecodeMeetsItsContract : Prop :=
  ∀ (p : Params) (w : List Byte), p.wf = true →
    (w.length ≤ p.npar ∨ p.kMsg + p.npar < w.length → rsDecode p w = .error .eLength) ∧
    (p.npar < w.length → w.length ≤ p.kMsg + p.npar →
      (∀ c, IsCorrection p w c → rsDecode p w = .ok (c.take (w.length - p.npar))) ∧
      ((¬ ∃ c, IsCorrection p w c) → rsDecode p w = .error .uncorrectable))

/-- R129 (c): a word farther than `T_CORR` but not farther than `NPAR - T_CORR` from a codeword is
uncorrectable. -/
def Obligations.DetectedErrorsAreUncorrectable : Prop :=
  ∀ (p : Params) (w c : List Byte), p.wf = true → lengthLegal p w.length = true →
    c.length = w.length → isCodeword p c = true →
    tCorr p < wordDist c w → wordDist c w ≤ p.npar - tCorr p →
    rsDecode p w = .error .uncorrectable

/-- R139 (b): every message survives up to `T_CORR` byte errors in its codeword. -/
def Obligations.DecodingInvertsEncoding : Prop :=
  ∀ (p : Params) (m w : List Byte), p.wf = true → 1 ≤ m.length → m.length ≤ p.kMsg →
    w.length = (encode p m).length → wordDist w (encode p m) ≤ tCorr p → rsDecode p w = .ok m

/-- R139 (c): DECODE returns the message of an interleaved, padded frame whose sentinel is intact, whose
fill holds no sentinel and whose codeword part has at most `T_CORR` wrong bytes; R90: or of one without
sentinel and fill, when its codeword part holds no sentinel byte. -/
def Obligations.DecodeDeliversTheSentMessage : Prop :=
  ∀ (s : State) (m w fill : List Byte), s.params.wf = true → 1 ≤ m.length → m.length ≤ s.params.kMsg →
    w.length = (encode s.params m).length → wordDist w (encode s.params m) ≤ tCorr s.params →
    (0xFF ∉ fill ∧ s.ib = inter s.params (w ++ 0xFF :: fill)) ∨ (0xFF ∉ w ∧ s.ib = inter s.params w) →
    exec .decode s = .next { s with wb := m, result := .ok }

/-- R130, step 5: what the reference algorithm returns is the message of a codeword within `T_CORR`. -/
def Obligations.ReferenceDecoderIsSound : Prop :=
  ∀ (p : Params) (w m : List Byte), referenceDecode p w = .ok m →
    lengthLegal p w.length = true ∧ ∃ c, IsCorrection p w c ∧ m = c.take (w.length - p.npar)

/-! ### The packet filter -/

/-- R160: the predicate. -/
def Obligations.FilterPassIsThePredicate : Prop :=
  ∀ (f : List Byte) (len off : Nat) (expected : Nat → Byte),
    filterPass f len off expected = true ↔
      len = 0 ∨ (4 ≤ f.length ∧ f.take 4 = [0x54, 0x69, 0x6E, 0x79]) ∨
      ∀ i < len, off + i < f.length ∧ f[off + i]? = some (expected i)

/-- R164: the marker always passes, no filter always passes, and a pass without marker means every expected
byte is there. -/
def Obligations.FilterProperties : Prop :=
  (∀ (rest : List Byte) (len off : Nat) (expected : Nat → Byte),
    filterPass (0x54 :: 0x69 :: 0x6E :: 0x79 :: rest) len off expected = true) ∧
  (∀ (f : List Byte) (off : Nat) (expected : Nat → Byte), filterPass f 0 off expected = true) ∧
  (∀ (f : List Byte) (len off : Nat) (expected : Nat → Byte), filterPass f len off expected = true →
    0 < len → ¬ [0x54, 0x69, 0x6E, 0x79] <+: f →
    off + len ≤ f.length ∧ ∀ i < len, f[off + i]? = some (expected i))

/-! ### The tracker's store -/

/-- R181, R185: a valid store of the triple `m` is kept by every step but a reset and a TRK that executes
with another triple; so by a TRK that reports `SPURIOUS` too, alone or with a coinciding event. -/
def Obligations.TrackerStoreIsKept : Prop :=
  ∀ (s t : State) (m : Metrics), s.prevValid = true → s.prev = m →
    (∀ h ∈ s.inputs.head?, ¬ h.resets ∧ (h.runs .trk → s.met = m)) → step s = .next t →
    t.prevValid = true ∧ t.prev = m

/-! ### Coinciding inputs and the responses -/

/-- R52: a transaction that coincides with an event (R60) or with a reset that overrides it (R205, R230) is
answered too, once and by a response of its kind. One that coincides with an event and ends in `SLVERR`
leaves what the event alone leaves. Which response an overridden transaction gets is a free value
(assumption 5), and the statement holds whichever it is; the counter `draws` is the model's own. -/
def Obligations.CoincidingTransactionIsAnswered : Prop :=
  ∀ (s : State) (t : Transaction) (rest : List Input),
    s.inputs = .irqWith t :: rest ∨ s.inputs = .resetWith t :: rest →
    ∃ u r, step s = .next u ∧ u.responses = r :: s.responses ∧ u.inputs = rest ∧
      (s.inputs = .irqWith t :: rest → r = .slverr →
        u = frameIrq { s with inputs := rest, responses := .slverr :: s.responses, draws := s.draws + 1 }) ∧
      (s.inputs = .resetWith t :: rest → IsResetState s.params u) ∧
      (match t with
        | .r4 _ => r = .slverr ∨ ∃ v, r = .okayWord v
        | .r1 _ => r = .slverr ∨ ∃ v, r = .okayByte v
        | .w4 _ _ => r = .slverr ∨ r = .okay
        | .w1 _ _ => r = .slverr ∨ r = .okay)
end

