-- ==== Sys2Proof/Laws/Fec.lean ====
section
/-! SUPPORT. One specification lemma per function of the FEC unit that a proof would otherwise unfold. -/

namespace Sys2Proof.Machine

/-! ### Parameters -/

/-- `distinctFrom` says that no byte is repeated or already seen. -/
theorem distinctFrom_iff (seen : Nat) (l : List Byte) :
    distinctFrom seen l = true ↔ l.Nodup ∧ ∀ b ∈ l, seen.testBit b.toNat = false := by
  induction l generalizing seen with
  | nil => simp [distinctFrom]
  | cons b bs ih =>
    have hbit : ∀ c : Byte, (seen ||| 1 <<< b.toNat).testBit c.toNat = false ↔
        seen.testBit c.toNat = false ∧ c ≠ b := fun c => by
      rw [Nat.testBit_or, Nat.one_shiftLeft, Nat.testBit_two_pow, Bool.or_eq_false_iff,
        decide_eq_false_iff_not, ne_eq, ← BitVec.toNat_inj, eq_comm (a := b.toNat)]
    simp only [distinctFrom, Bool.and_eq_true, Bool.not_eq_true', ih, hbit, List.nodup_cons,
      List.mem_cons, forall_eq_or_imp]
    constructor
    · rintro ⟨h1, h2, h3⟩
      exact ⟨⟨fun hb => (h3 b hb).2 rfl, h2⟩, h1, fun c hc => (h3 c hc).1⟩
    · rintro ⟨⟨h1, h2⟩, h3, h4⟩
      exact ⟨h3, h2, fun c hc => ⟨h4 c hc, fun e => h1 (e ▸ hc)⟩⟩

/-- The orbit of a power of `ALPHA` lists the following powers. -/
theorem gfOrbit_gfPow (poly : BitVec 9) (n k : Nat) :
    gfOrbit poly n (gfPow poly alpha k) = (List.range n).map (fun i => gfPow poly alpha (k + i)) := by
  induction n generalizing k with
  | zero => rfl
  | succ n ih =>
    rw [List.range_succ_eq_map, List.map_cons, List.map_map, gfOrbit,
      show gfMul poly (gfPow poly alpha k) alpha = gfPow poly alpha (k + 1) from rfl, ih]
    simp [Function.comp_def, Nat.add_assoc, Nat.add_comm 1]

/-! ### The decoder -/

theorem allZero_iff (w : List Byte) : allZero w = true ↔ ∀ b ∈ w, b = 0 := by simp [allZero]

@[simp] theorem length_addErrors (w : List Byte) (es : List (Nat × Byte)) :
    (addErrors w es).length = w.length := by
  unfold addErrors
  induction es generalizing w with
  | nil => rfl
  | cons e es ih => rw [List.foldl_cons, ih, List.length_modify]

@[simp] theorem length_correctAt (p : Params) (w : List Byte) (support : List Nat) :
    (correctAt p w support).length = w.length := length_addErrors _ _

/-- What `codewordAt` answers is a codeword of the same length within the correction bound. -/
theorem codewordAt_some {p : Params} {w c : List Byte} {support : List Nat}
    (h : codewordAt p w support = some c) :
    c = correctAt p w support ∧ isCodeword p c = true ∧ wordDist c w ≤ tCorr p := by
  unfold codewordAt at h
  split at h
  · dsimp only at h
    split at h
    · rename_i hc
      cases h
      simpa using hc
    · cases h
  · cases h

/-- What `nearestCodeword` answers is a codeword of the same length within the correction bound. -/
theorem nearestCodeword_some {p : Params} {w c : List Byte} (h : nearestCodeword p w = some c) :
    c.length = w.length ∧ isCodeword p c = true ∧ wordDist c w ≤ tCorr p := by
  obtain ⟨support, -, hs⟩ := List.exists_of_findSome?_eq_some h
  obtain ⟨rfl, hc⟩ := codewordAt_some hs
  exact ⟨length_correctAt p w support, hc⟩

/-- The positions that the decoder tries: the rising lists of at most `t` positions below `n`. -/
theorem mem_errorSupports {t n : Nat} {support : List Nat} :
    support ∈ errorSupports t n ↔ support.Sublist (List.range n) ∧ support.length ≤ t := by
  simp only [errorSupports, List.mem_flatMap, List.mem_range, List.mem_sublistsLen]
  constructor
  · rintro ⟨k, hk, hs, rfl⟩
    exact ⟨hs, by omega⟩
  · rintro ⟨hs, hl⟩
    exact ⟨support.length, by omega, hs, rfl⟩

/-- Everything the decoder can answer. -/
theorem rsDecode_cases (p : Params) (w : List Byte) :
    (lengthLegal p w.length = false ∧ rsDecode p w = .error .eLength) ∨
    (lengthLegal p w.length = true ∧ nearestCodeword p w = none ∧ rsDecode p w = .error .uncorrectable) ∨
    (lengthLegal p w.length = true ∧ ∃ c, nearestCodeword p w = some c ∧
      rsDecode p w = .ok (c.take (w.length - p.npar))) := by
  unfold rsDecode
  cases hl : lengthLegal p w.length with
  | false => exact .inl ⟨rfl, rfl⟩
  | true =>
    cases hn : nearestCodeword p w with
    | none => exact .inr (.inl ⟨rfl, rfl, by simp⟩)
    | some c => exact .inr (.inr ⟨rfl, c, rfl, by simp⟩)

/-- A decoded message is shorter than the word by `NPAR`. -/
theorem length_rsDecode {p : Params} {w m : List Byte} (h : rsDecode p w = .ok m) :
    m.length = w.length - p.npar := by
  rcases rsDecode_cases p w with ⟨-, h'⟩ | ⟨-, -, h'⟩ | ⟨-, c, hc, h'⟩ <;> rw [h] at h'
  · cases h'
  · cases h'
  · cases h'
    rw [List.length_take, (nearestCodeword_some hc).1]
    omega

/-! ### The strip -/

/-- The scan gives its argument back, or a part of it before an index that it passes. -/
theorem stripBelow_cases (d : List Byte) (n : Nat) :
    stripBelow d n = d ∨ ∃ i < n, stripBelow d n = d.take i := by
  induction n with
  | zero => exact .inl rfl
  | succ n ih =>
    unfold stripBelow
    split
    · exact .inr ⟨n, by omega, rfl⟩
    · rcases ih with h | ⟨i, hi, h⟩
      · exact .inl h
      · exact .inr ⟨i, by omega, h⟩

theorem length_strip_le (d : List Byte) : (strip d).length ≤ d.length := by
  rcases stripBelow_cases d d.length with h | ⟨i, hi, h⟩
  · exact le_of_eq (congrArg List.length h)
  · rw [strip, h, List.length_take]; omega

end Sys2Proof.Machine
end

