-- ==== Sys2Proof/Laws/Memory.lean ====
section
/-! SUPPORT. The laws of the byte storage: read after write, frame, and that a write keeps the canonical
form and the addresses. -/

namespace Sys2Proof.Machine

@[simp] theorem Memory.read_nil (a : Nat) : Memory.read [] a = Memory.unlisted := rfl

theorem Memory.read_cons (c : Host.Cell) (m : Memory) (a : Nat) :
    Memory.read (c :: m) a = if c.1 = a then c.2 else Memory.read m a := rfl

/-- An address below every listed one reads as unlisted. -/
theorem Memory.read_eq_unlisted {m : Memory} {a : Nat} (h : ∀ c ∈ m, a ≠ c.1) :
    Memory.read m a = Memory.unlisted := by
  induction m with
  | nil => rfl
  | cons c m ih =>
    rw [Memory.read_cons, if_neg (fun e => h c (by simp) e.symm)]
    exact ih fun d hd => h d (by simp [hd])

theorem Memory.read_consCell_other {m : Memory} {a b : Nat} (v : Byte) (h : b ≠ a) :
    Memory.read (Memory.consCell a v m) b = Memory.read m b := by
  unfold Memory.consCell
  split
  · rfl
  · rw [Memory.read_cons, if_neg (Ne.symm h)]

theorem Memory.read_consCell_same {m : Memory} {a : Nat} (v : Byte) (h : ∀ c ∈ m, a ≠ c.1) :
    Memory.read (Memory.consCell a v m) a = v := by
  unfold Memory.consCell
  split
  · rename_i hv
    rw [Memory.read_eq_unlisted h, hv]
  · rw [Memory.read_cons, if_pos rfl]

/-- Reading the address just written gives the byte written. -/
theorem Memory.read_write_same {m : Memory} (hm : Memory.wf m) (a : Nat) (v : Byte) :
    Memory.read (Memory.write m a v) a = v := by
  induction m with
  | nil => exact Memory.read_consCell_same v (by simp)
  | cons c m ih =>
    obtain ⟨hlt, hrest⟩ := List.pairwise_cons.mp hm.1
    unfold Memory.write
    split
    · rename_i h
      refine Memory.read_consCell_same v fun d hd => ?_
      rcases List.mem_cons.mp hd with rfl | hd
      · omega
      · have := hlt d hd; omega
    · split
      · rename_i h
        refine Memory.read_consCell_same v fun d hd => ?_
        have := hlt d hd; omega
      · rename_i h
        rw [Memory.read_cons, if_neg (fun e => h e.symm)]
        exact ih ⟨hrest, fun d hd => hm.2 d (by simp [hd])⟩

/-- Reading any other address gives what it gave before. -/
theorem Memory.read_write_other (m : Memory) {a b : Nat} (v : Byte) (h : b ≠ a) :
    Memory.read (Memory.write m a v) b = Memory.read m b := by
  induction m with
  | nil => exact Memory.read_consCell_other v h
  | cons c m ih =>
    unfold Memory.write
    split
    · exact Memory.read_consCell_other v h
    · split
      · rename_i hk
        rw [Memory.read_consCell_other v h, Memory.read_cons, if_neg (by omega)]
      · rw [Memory.read_cons, Memory.read_cons, ih]

theorem Memory.mem_consCell {m : Memory} {a : Nat} {v : Byte} {c : Host.Cell}
    (h : c ∈ Memory.consCell a v m) : (c.1 = a ∧ v ≠ Memory.unlisted ∧ c.2 = v) ∨ c ∈ m := by
  unfold Memory.consCell at h
  split at h
  · exact .inr h
  · rename_i hv
    rcases List.mem_cons.mp h with rfl | h
    · exact .inl ⟨rfl, hv, rfl⟩
    · exact .inr h

/-- Every cell of the memory after a write is the cell written or was there before. -/
theorem Memory.mem_write {m : Memory} {a : Nat} {v : Byte} {c : Host.Cell}
    (h : c ∈ Memory.write m a v) : (c.1 = a ∧ v ≠ Memory.unlisted ∧ c.2 = v) ∨ c ∈ m := by
  induction m with
  | nil => exact Memory.mem_consCell h
  | cons d m ih =>
    unfold Memory.write at h
    split at h
    · exact Memory.mem_consCell h
    · split at h
      · exact (Memory.mem_consCell h).imp_right (List.mem_cons_of_mem _)
      · rcases List.mem_cons.mp h with rfl | h
        · exact .inr (by simp)
        · exact (ih h).imp_right (List.mem_cons_of_mem _)

theorem Memory.wf_consCell {m : Memory} {a : Nat} {v : Byte} (hm : Memory.wf m)
    (h : ∀ c ∈ m, a < c.1) : Memory.wf (Memory.consCell a v m) := by
  unfold Memory.consCell
  split
  · exact hm
  · rename_i hv
    exact ⟨List.pairwise_cons.mpr ⟨h, hm.1⟩, fun c hc => by
      rcases List.mem_cons.mp hc with rfl | hc
      · exact hv
      · exact hm.2 c hc⟩

/-- A write keeps the canonical form. -/
theorem Memory.wf_write {m : Memory} (hm : Memory.wf m) (a : Nat) (v : Byte) :
    Memory.wf (Memory.write m a v) := by
  induction m with
  | nil => exact Memory.wf_consCell hm (by simp)
  | cons c m ih =>
    obtain ⟨hlt, hrest⟩ := List.pairwise_cons.mp hm.1
    have hm' : Memory.wf m := ⟨hrest, fun d hd => hm.2 d (by simp [hd])⟩
    unfold Memory.write
    split
    · rename_i h
      refine Memory.wf_consCell hm fun d hd => ?_
      rcases List.mem_cons.mp hd with rfl | hd
      · exact h
      · exact lt_trans h (hlt d hd)
    · split
      · rename_i h
        exact Memory.wf_consCell hm' fun d hd => h ▸ hlt d hd
      · rename_i hge hne
        refine ⟨List.pairwise_cons.mpr ⟨fun d hd => ?_, (ih hm').1⟩, fun d hd => ?_⟩
        · rcases Memory.mem_write hd with ⟨h, -⟩ | h
          · show c.1 < d.1
            omega
          · exact hlt d h
        · rcases List.mem_cons.mp hd with rfl | hd
          · exact hm.2 _ (by simp)
          · exact (ih hm').2 d hd

/-- The empty memory, which reset leaves, is canonical. -/
theorem Memory.wf_nil : Memory.wf [] := ⟨List.Pairwise.nil, by simp⟩

end Sys2Proof.Machine
end

