-- ==== Sys2Proof/Laws/PerInstr.lean ====
section
/-! SUPPORT. The statement made of every command: its encoding is a legal word that decodes to it. -/

namespace Sys2Proof.Laws.Encoding

/-- The encoding of a well-formed command has `zero` in [31:8] and decodes to the command. -/
def Statement (i : Instr) : Prop :=
  i.wf = true → (encodeWord i).extractLsb' 8 24 = 0 ∧ decodeWord (encodeWord i) = .command i

theorem clr : Statement .clr := fun _ => by decide
theorem copy : Statement .copy := fun _ => by decide
theorem deint : Statement .deint := fun _ => by decide
theorem strip : Statement .strip := fun _ => by decide
theorem rsdec : Statement .rsdec := fun _ => by decide
theorem decode : Statement .decode := fun _ => by decide
theorem filt : Statement .filt := fun _ => by decide
theorem trk : Statement .trk := fun _ => by decide
theorem begin_ : Statement .begin_ := fun _ => by decide
theorem rearm : Statement .rearm := fun _ => by decide

end Sys2Proof.Laws.Encoding
end

