-- ==== Sys2Proof/Laws/State.lean ====
section
/-! SUPPORT. What each named update does to each field of State: one lemma per field per update, true by
`rfl`, so that no proof unfolds a record update. -/

namespace Sys2Proof.Machine

variable (s : State)

/-! ### clearFrame -/

@[simp] theorem clearFrame_ib : (clearFrame s).ib = [] := rfl
@[simp] theorem clearFrame_wb : (clearFrame s).wb = s.wb := rfl
@[simp] theorem clearFrame_filtLen : (clearFrame s).filtLen = s.filtLen := rfl
@[simp] theorem clearFrame_filtOff : (clearFrame s).filtOff = s.filtOff := rfl
@[simp] theorem clearFrame_fx : (clearFrame s).fx = s.fx := rfl
@[simp] theorem clearFrame_met : (clearFrame s).met = s.met := rfl
@[simp] theorem clearFrame_prev : (clearFrame s).prev = s.prev := rfl
@[simp] theorem clearFrame_prevValid : (clearFrame s).prevValid = s.prevValid := rfl
@[simp] theorem clearFrame_frameReady : (clearFrame s).frameReady = s.frameReady := rfl
@[simp] theorem clearFrame_irqEn : (clearFrame s).irqEn = s.irqEn := rfl
@[simp] theorem clearFrame_dupSuspected : (clearFrame s).dupSuspected = s.dupSuspected := rfl
@[simp] theorem clearFrame_result : (clearFrame s).result = s.result := rfl
@[simp] theorem clearFrame_params : (clearFrame s).params = s.params := rfl
@[simp] theorem clearFrame_inputs : (clearFrame s).inputs = s.inputs := rfl
@[simp] theorem clearFrame_responses : (clearFrame s).responses = s.responses := rfl
@[simp] theorem clearFrame_draws : (clearFrame s).draws = s.draws := rfl

/-! ### appendFrame -/

@[simp] theorem appendFrame_ib (b : Byte) : (appendFrame b s).ib = s.ib ++ [b] := rfl
@[simp] theorem appendFrame_wb (b : Byte) : (appendFrame b s).wb = s.wb := rfl
@[simp] theorem appendFrame_filtLen (b : Byte) : (appendFrame b s).filtLen = s.filtLen := rfl
@[simp] theorem appendFrame_filtOff (b : Byte) : (appendFrame b s).filtOff = s.filtOff := rfl
@[simp] theorem appendFrame_fx (b : Byte) : (appendFrame b s).fx = s.fx := rfl
@[simp] theorem appendFrame_met (b : Byte) : (appendFrame b s).met = s.met := rfl
@[simp] theorem appendFrame_prev (b : Byte) : (appendFrame b s).prev = s.prev := rfl
@[simp] theorem appendFrame_prevValid (b : Byte) : (appendFrame b s).prevValid = s.prevValid := rfl
@[simp] theorem appendFrame_frameReady (b : Byte) : (appendFrame b s).frameReady = s.frameReady := rfl
@[simp] theorem appendFrame_irqEn (b : Byte) : (appendFrame b s).irqEn = s.irqEn := rfl
@[simp] theorem appendFrame_dupSuspected (b : Byte) : (appendFrame b s).dupSuspected = s.dupSuspected := rfl
@[simp] theorem appendFrame_result (b : Byte) : (appendFrame b s).result = s.result := rfl
@[simp] theorem appendFrame_params (b : Byte) : (appendFrame b s).params = s.params := rfl
@[simp] theorem appendFrame_inputs (b : Byte) : (appendFrame b s).inputs = s.inputs := rfl
@[simp] theorem appendFrame_responses (b : Byte) : (appendFrame b s).responses = s.responses := rfl
@[simp] theorem appendFrame_draws (b : Byte) : (appendFrame b s).draws = s.draws := rfl

/-! ### setWork -/

@[simp] theorem setWork_ib (d : List Byte) : (setWork d s).ib = s.ib := rfl
@[simp] theorem setWork_wb (d : List Byte) : (setWork d s).wb = d := rfl
@[simp] theorem setWork_filtLen (d : List Byte) : (setWork d s).filtLen = s.filtLen := rfl
@[simp] theorem setWork_filtOff (d : List Byte) : (setWork d s).filtOff = s.filtOff := rfl
@[simp] theorem setWork_fx (d : List Byte) : (setWork d s).fx = s.fx := rfl
@[simp] theorem setWork_met (d : List Byte) : (setWork d s).met = s.met := rfl
@[simp] theorem setWork_prev (d : List Byte) : (setWork d s).prev = s.prev := rfl
@[simp] theorem setWork_prevValid (d : List Byte) : (setWork d s).prevValid = s.prevValid := rfl
@[simp] theorem setWork_frameReady (d : List Byte) : (setWork d s).frameReady = s.frameReady := rfl
@[simp] theorem setWork_irqEn (d : List Byte) : (setWork d s).irqEn = s.irqEn := rfl
@[simp] theorem setWork_dupSuspected (d : List Byte) : (setWork d s).dupSuspected = s.dupSuspected := rfl
@[simp] theorem setWork_result (d : List Byte) : (setWork d s).result = s.result := rfl
@[simp] theorem setWork_params (d : List Byte) : (setWork d s).params = s.params := rfl
@[simp] theorem setWork_inputs (d : List Byte) : (setWork d s).inputs = s.inputs := rfl
@[simp] theorem setWork_responses (d : List Byte) : (setWork d s).responses = s.responses := rfl
@[simp] theorem setWork_draws (d : List Byte) : (setWork d s).draws = s.draws := rfl

/-! ### setFilter -/

@[simp] theorem setFilter_ib (len off : Byte) : (setFilter len off s).ib = s.ib := rfl
@[simp] theorem setFilter_wb (len off : Byte) : (setFilter len off s).wb = s.wb := rfl
@[simp] theorem setFilter_filtLen (len off : Byte) : (setFilter len off s).filtLen = len := rfl
@[simp] theorem setFilter_filtOff (len off : Byte) : (setFilter len off s).filtOff = off := rfl
@[simp] theorem setFilter_fx (len off : Byte) : (setFilter len off s).fx = s.fx := rfl
@[simp] theorem setFilter_met (len off : Byte) : (setFilter len off s).met = s.met := rfl
@[simp] theorem setFilter_prev (len off : Byte) : (setFilter len off s).prev = s.prev := rfl
@[simp] theorem setFilter_prevValid (len off : Byte) : (setFilter len off s).prevValid = s.prevValid := rfl
@[simp] theorem setFilter_frameReady (len off : Byte) : (setFilter len off s).frameReady = s.frameReady := rfl
@[simp] theorem setFilter_irqEn (len off : Byte) : (setFilter len off s).irqEn = s.irqEn := rfl
@[simp] theorem setFilter_dupSuspected (len off : Byte) : (setFilter len off s).dupSuspected = s.dupSuspected := rfl
@[simp] theorem setFilter_result (len off : Byte) : (setFilter len off s).result = s.result := rfl
@[simp] theorem setFilter_params (len off : Byte) : (setFilter len off s).params = s.params := rfl
@[simp] theorem setFilter_inputs (len off : Byte) : (setFilter len off s).inputs = s.inputs := rfl
@[simp] theorem setFilter_responses (len off : Byte) : (setFilter len off s).responses = s.responses := rfl
@[simp] theorem setFilter_draws (len off : Byte) : (setFilter len off s).draws = s.draws := rfl

/-! ### writeFx -/

@[simp] theorem writeFx_ib (a : Nat) (v : Byte) : (writeFx a v s).ib = s.ib := rfl
@[simp] theorem writeFx_wb (a : Nat) (v : Byte) : (writeFx a v s).wb = s.wb := rfl
@[simp] theorem writeFx_filtLen (a : Nat) (v : Byte) : (writeFx a v s).filtLen = s.filtLen := rfl
@[simp] theorem writeFx_filtOff (a : Nat) (v : Byte) : (writeFx a v s).filtOff = s.filtOff := rfl
@[simp] theorem writeFx_fx (a : Nat) (v : Byte) : (writeFx a v s).fx = Memory.write s.fx a v := rfl
@[simp] theorem writeFx_met (a : Nat) (v : Byte) : (writeFx a v s).met = s.met := rfl
@[simp] theorem writeFx_prev (a : Nat) (v : Byte) : (writeFx a v s).prev = s.prev := rfl
@[simp] theorem writeFx_prevValid (a : Nat) (v : Byte) : (writeFx a v s).prevValid = s.prevValid := rfl
@[simp] theorem writeFx_frameReady (a : Nat) (v : Byte) : (writeFx a v s).frameReady = s.frameReady := rfl
@[simp] theorem writeFx_irqEn (a : Nat) (v : Byte) : (writeFx a v s).irqEn = s.irqEn := rfl
@[simp] theorem writeFx_dupSuspected (a : Nat) (v : Byte) : (writeFx a v s).dupSuspected = s.dupSuspected := rfl
@[simp] theorem writeFx_result (a : Nat) (v : Byte) : (writeFx a v s).result = s.result := rfl
@[simp] theorem writeFx_params (a : Nat) (v : Byte) : (writeFx a v s).params = s.params := rfl
@[simp] theorem writeFx_inputs (a : Nat) (v : Byte) : (writeFx a v s).inputs = s.inputs := rfl
@[simp] theorem writeFx_responses (a : Nat) (v : Byte) : (writeFx a v s).responses = s.responses := rfl
@[simp] theorem writeFx_draws (a : Nat) (v : Byte) : (writeFx a v s).draws = s.draws := rfl

/-! ### setMetrics -/

@[simp] theorem setMetrics_ib (m : Metrics) : (setMetrics m s).ib = s.ib := rfl
@[simp] theorem setMetrics_wb (m : Metrics) : (setMetrics m s).wb = s.wb := rfl
@[simp] theorem setMetrics_filtLen (m : Metrics) : (setMetrics m s).filtLen = s.filtLen := rfl
@[simp] theorem setMetrics_filtOff (m : Metrics) : (setMetrics m s).filtOff = s.filtOff := rfl
@[simp] theorem setMetrics_fx (m : Metrics) : (setMetrics m s).fx = s.fx := rfl
@[simp] theorem setMetrics_met (m : Metrics) : (setMetrics m s).met = m := rfl
@[simp] theorem setMetrics_prev (m : Metrics) : (setMetrics m s).prev = s.prev := rfl
@[simp] theorem setMetrics_prevValid (m : Metrics) : (setMetrics m s).prevValid = s.prevValid := rfl
@[simp] theorem setMetrics_frameReady (m : Metrics) : (setMetrics m s).frameReady = s.frameReady := rfl
@[simp] theorem setMetrics_irqEn (m : Metrics) : (setMetrics m s).irqEn = s.irqEn := rfl
@[simp] theorem setMetrics_dupSuspected (m : Metrics) : (setMetrics m s).dupSuspected = s.dupSuspected := rfl
@[simp] theorem setMetrics_result (m : Metrics) : (setMetrics m s).result = s.result := rfl
@[simp] theorem setMetrics_params (m : Metrics) : (setMetrics m s).params = s.params := rfl
@[simp] theorem setMetrics_inputs (m : Metrics) : (setMetrics m s).inputs = s.inputs := rfl
@[simp] theorem setMetrics_responses (m : Metrics) : (setMetrics m s).responses = s.responses := rfl
@[simp] theorem setMetrics_draws (m : Metrics) : (setMetrics m s).draws = s.draws := rfl

/-! ### trackMetrics -/

@[simp] theorem trackMetrics_ib : (trackMetrics s).ib = s.ib := rfl
@[simp] theorem trackMetrics_wb : (trackMetrics s).wb = s.wb := rfl
@[simp] theorem trackMetrics_filtLen : (trackMetrics s).filtLen = s.filtLen := rfl
@[simp] theorem trackMetrics_filtOff : (trackMetrics s).filtOff = s.filtOff := rfl
@[simp] theorem trackMetrics_fx : (trackMetrics s).fx = s.fx := rfl
@[simp] theorem trackMetrics_met : (trackMetrics s).met = s.met := rfl
@[simp] theorem trackMetrics_prev : (trackMetrics s).prev = s.met := rfl
@[simp] theorem trackMetrics_prevValid : (trackMetrics s).prevValid = true := rfl
@[simp] theorem trackMetrics_frameReady : (trackMetrics s).frameReady = s.frameReady := rfl
@[simp] theorem trackMetrics_irqEn : (trackMetrics s).irqEn = s.irqEn := rfl
@[simp] theorem trackMetrics_dupSuspected : (trackMetrics s).dupSuspected = s.dupSuspected := rfl
@[simp] theorem trackMetrics_result : (trackMetrics s).result = s.result := rfl
@[simp] theorem trackMetrics_params : (trackMetrics s).params = s.params := rfl
@[simp] theorem trackMetrics_inputs : (trackMetrics s).inputs = s.inputs := rfl
@[simp] theorem trackMetrics_responses : (trackMetrics s).responses = s.responses := rfl
@[simp] theorem trackMetrics_draws : (trackMetrics s).draws = s.draws := rfl

/-! ### setFrameReady -/

@[simp] theorem setFrameReady_ib (b : Bool) : (setFrameReady b s).ib = s.ib := rfl
@[simp] theorem setFrameReady_wb (b : Bool) : (setFrameReady b s).wb = s.wb := rfl
@[simp] theorem setFrameReady_filtLen (b : Bool) : (setFrameReady b s).filtLen = s.filtLen := rfl
@[simp] theorem setFrameReady_filtOff (b : Bool) : (setFrameReady b s).filtOff = s.filtOff := rfl
@[simp] theorem setFrameReady_fx (b : Bool) : (setFrameReady b s).fx = s.fx := rfl
@[simp] theorem setFrameReady_met (b : Bool) : (setFrameReady b s).met = s.met := rfl
@[simp] theorem setFrameReady_prev (b : Bool) : (setFrameReady b s).prev = s.prev := rfl
@[simp] theorem setFrameReady_prevValid (b : Bool) : (setFrameReady b s).prevValid = s.prevValid := rfl
@[simp] theorem setFrameReady_frameReady (b : Bool) : (setFrameReady b s).frameReady = b := rfl
@[simp] theorem setFrameReady_irqEn (b : Bool) : (setFrameReady b s).irqEn = s.irqEn := rfl
@[simp] theorem setFrameReady_dupSuspected (b : Bool) : (setFrameReady b s).dupSuspected = s.dupSuspected := rfl
@[simp] theorem setFrameReady_result (b : Bool) : (setFrameReady b s).result = s.result := rfl
@[simp] theorem setFrameReady_params (b : Bool) : (setFrameReady b s).params = s.params := rfl
@[simp] theorem setFrameReady_inputs (b : Bool) : (setFrameReady b s).inputs = s.inputs := rfl
@[simp] theorem setFrameReady_responses (b : Bool) : (setFrameReady b s).responses = s.responses := rfl
@[simp] theorem setFrameReady_draws (b : Bool) : (setFrameReady b s).draws = s.draws := rfl

/-! ### setIrqEn -/

@[simp] theorem setIrqEn_ib (b : Bool) : (setIrqEn b s).ib = s.ib := rfl
@[simp] theorem setIrqEn_wb (b : Bool) : (setIrqEn b s).wb = s.wb := rfl
@[simp] theorem setIrqEn_filtLen (b : Bool) : (setIrqEn b s).filtLen = s.filtLen := rfl
@[simp] theorem setIrqEn_filtOff (b : Bool) : (setIrqEn b s).filtOff = s.filtOff := rfl
@[simp] theorem setIrqEn_fx (b : Bool) : (setIrqEn b s).fx = s.fx := rfl
@[simp] theorem setIrqEn_met (b : Bool) : (setIrqEn b s).met = s.met := rfl
@[simp] theorem setIrqEn_prev (b : Bool) : (setIrqEn b s).prev = s.prev := rfl
@[simp] theorem setIrqEn_prevValid (b : Bool) : (setIrqEn b s).prevValid = s.prevValid := rfl
@[simp] theorem setIrqEn_frameReady (b : Bool) : (setIrqEn b s).frameReady = s.frameReady := rfl
@[simp] theorem setIrqEn_irqEn (b : Bool) : (setIrqEn b s).irqEn = b := rfl
@[simp] theorem setIrqEn_dupSuspected (b : Bool) : (setIrqEn b s).dupSuspected = s.dupSuspected := rfl
@[simp] theorem setIrqEn_result (b : Bool) : (setIrqEn b s).result = s.result := rfl
@[simp] theorem setIrqEn_params (b : Bool) : (setIrqEn b s).params = s.params := rfl
@[simp] theorem setIrqEn_inputs (b : Bool) : (setIrqEn b s).inputs = s.inputs := rfl
@[simp] theorem setIrqEn_responses (b : Bool) : (setIrqEn b s).responses = s.responses := rfl
@[simp] theorem setIrqEn_draws (b : Bool) : (setIrqEn b s).draws = s.draws := rfl

/-! ### setDupSuspected -/

@[simp] theorem setDupSuspected_ib (b : Bool) : (setDupSuspected b s).ib = s.ib := rfl
@[simp] theorem setDupSuspected_wb (b : Bool) : (setDupSuspected b s).wb = s.wb := rfl
@[simp] theorem setDupSuspected_filtLen (b : Bool) : (setDupSuspected b s).filtLen = s.filtLen := rfl
@[simp] theorem setDupSuspected_filtOff (b : Bool) : (setDupSuspected b s).filtOff = s.filtOff := rfl
@[simp] theorem setDupSuspected_fx (b : Bool) : (setDupSuspected b s).fx = s.fx := rfl
@[simp] theorem setDupSuspected_met (b : Bool) : (setDupSuspected b s).met = s.met := rfl
@[simp] theorem setDupSuspected_prev (b : Bool) : (setDupSuspected b s).prev = s.prev := rfl
@[simp] theorem setDupSuspected_prevValid (b : Bool) : (setDupSuspected b s).prevValid = s.prevValid := rfl
@[simp] theorem setDupSuspected_frameReady (b : Bool) : (setDupSuspected b s).frameReady = s.frameReady := rfl
@[simp] theorem setDupSuspected_irqEn (b : Bool) : (setDupSuspected b s).irqEn = s.irqEn := rfl
@[simp] theorem setDupSuspected_dupSuspected (b : Bool) : (setDupSuspected b s).dupSuspected = b := rfl
@[simp] theorem setDupSuspected_result (b : Bool) : (setDupSuspected b s).result = s.result := rfl
@[simp] theorem setDupSuspected_params (b : Bool) : (setDupSuspected b s).params = s.params := rfl
@[simp] theorem setDupSuspected_inputs (b : Bool) : (setDupSuspected b s).inputs = s.inputs := rfl
@[simp] theorem setDupSuspected_responses (b : Bool) : (setDupSuspected b s).responses = s.responses := rfl
@[simp] theorem setDupSuspected_draws (b : Bool) : (setDupSuspected b s).draws = s.draws := rfl

/-! ### report -/

@[simp] theorem report_ib (c : ResultCode) : (report c s).ib = s.ib := rfl
@[simp] theorem report_wb (c : ResultCode) : (report c s).wb = s.wb := rfl
@[simp] theorem report_filtLen (c : ResultCode) : (report c s).filtLen = s.filtLen := rfl
@[simp] theorem report_filtOff (c : ResultCode) : (report c s).filtOff = s.filtOff := rfl
@[simp] theorem report_fx (c : ResultCode) : (report c s).fx = s.fx := rfl
@[simp] theorem report_met (c : ResultCode) : (report c s).met = s.met := rfl
@[simp] theorem report_prev (c : ResultCode) : (report c s).prev = s.prev := rfl
@[simp] theorem report_prevValid (c : ResultCode) : (report c s).prevValid = s.prevValid := rfl
@[simp] theorem report_frameReady (c : ResultCode) : (report c s).frameReady = s.frameReady := rfl
@[simp] theorem report_irqEn (c : ResultCode) : (report c s).irqEn = s.irqEn := rfl
@[simp] theorem report_dupSuspected (c : ResultCode) : (report c s).dupSuspected = s.dupSuspected := rfl
@[simp] theorem report_result (c : ResultCode) : (report c s).result = c := rfl
@[simp] theorem report_params (c : ResultCode) : (report c s).params = s.params := rfl
@[simp] theorem report_inputs (c : ResultCode) : (report c s).inputs = s.inputs := rfl
@[simp] theorem report_responses (c : ResultCode) : (report c s).responses = s.responses := rfl
@[simp] theorem report_draws (c : ResultCode) : (report c s).draws = s.draws := rfl

/-! ### respond -/

@[simp] theorem respond_ib (r : Response) : (respond r s).ib = s.ib := rfl
@[simp] theorem respond_wb (r : Response) : (respond r s).wb = s.wb := rfl
@[simp] theorem respond_filtLen (r : Response) : (respond r s).filtLen = s.filtLen := rfl
@[simp] theorem respond_filtOff (r : Response) : (respond r s).filtOff = s.filtOff := rfl
@[simp] theorem respond_fx (r : Response) : (respond r s).fx = s.fx := rfl
@[simp] theorem respond_met (r : Response) : (respond r s).met = s.met := rfl
@[simp] theorem respond_prev (r : Response) : (respond r s).prev = s.prev := rfl
@[simp] theorem respond_prevValid (r : Response) : (respond r s).prevValid = s.prevValid := rfl
@[simp] theorem respond_frameReady (r : Response) : (respond r s).frameReady = s.frameReady := rfl
@[simp] theorem respond_irqEn (r : Response) : (respond r s).irqEn = s.irqEn := rfl
@[simp] theorem respond_dupSuspected (r : Response) : (respond r s).dupSuspected = s.dupSuspected := rfl
@[simp] theorem respond_result (r : Response) : (respond r s).result = s.result := rfl
@[simp] theorem respond_params (r : Response) : (respond r s).params = s.params := rfl
@[simp] theorem respond_inputs (r : Response) : (respond r s).inputs = s.inputs := rfl
@[simp] theorem respond_responses (r : Response) : (respond r s).responses = r :: s.responses := rfl
@[simp] theorem respond_draws (r : Response) : (respond r s).draws = s.draws := rfl

/-! ### setInputs -/

@[simp] theorem setInputs_ib (rest : List Input) : (setInputs rest s).ib = s.ib := rfl
@[simp] theorem setInputs_wb (rest : List Input) : (setInputs rest s).wb = s.wb := rfl
@[simp] theorem setInputs_filtLen (rest : List Input) : (setInputs rest s).filtLen = s.filtLen := rfl
@[simp] theorem setInputs_filtOff (rest : List Input) : (setInputs rest s).filtOff = s.filtOff := rfl
@[simp] theorem setInputs_fx (rest : List Input) : (setInputs rest s).fx = s.fx := rfl
@[simp] theorem setInputs_met (rest : List Input) : (setInputs rest s).met = s.met := rfl
@[simp] theorem setInputs_prev (rest : List Input) : (setInputs rest s).prev = s.prev := rfl
@[simp] theorem setInputs_prevValid (rest : List Input) : (setInputs rest s).prevValid = s.prevValid := rfl
@[simp] theorem setInputs_frameReady (rest : List Input) : (setInputs rest s).frameReady = s.frameReady := rfl
@[simp] theorem setInputs_irqEn (rest : List Input) : (setInputs rest s).irqEn = s.irqEn := rfl
@[simp] theorem setInputs_dupSuspected (rest : List Input) : (setInputs rest s).dupSuspected = s.dupSuspected := rfl
@[simp] theorem setInputs_result (rest : List Input) : (setInputs rest s).result = s.result := rfl
@[simp] theorem setInputs_params (rest : List Input) : (setInputs rest s).params = s.params := rfl
@[simp] theorem setInputs_inputs (rest : List Input) : (setInputs rest s).inputs = rest := rfl
@[simp] theorem setInputs_responses (rest : List Input) : (setInputs rest s).responses = s.responses := rfl
@[simp] theorem setInputs_draws (rest : List Input) : (setInputs rest s).draws = s.draws := rfl

/-! ### countDraw -/

@[simp] theorem countDraw_ib : (countDraw s).ib = s.ib := rfl
@[simp] theorem countDraw_wb : (countDraw s).wb = s.wb := rfl
@[simp] theorem countDraw_filtLen : (countDraw s).filtLen = s.filtLen := rfl
@[simp] theorem countDraw_filtOff : (countDraw s).filtOff = s.filtOff := rfl
@[simp] theorem countDraw_fx : (countDraw s).fx = s.fx := rfl
@[simp] theorem countDraw_met : (countDraw s).met = s.met := rfl
@[simp] theorem countDraw_prev : (countDraw s).prev = s.prev := rfl
@[simp] theorem countDraw_prevValid : (countDraw s).prevValid = s.prevValid := rfl
@[simp] theorem countDraw_frameReady : (countDraw s).frameReady = s.frameReady := rfl
@[simp] theorem countDraw_irqEn : (countDraw s).irqEn = s.irqEn := rfl
@[simp] theorem countDraw_dupSuspected : (countDraw s).dupSuspected = s.dupSuspected := rfl
@[simp] theorem countDraw_result : (countDraw s).result = s.result := rfl
@[simp] theorem countDraw_params : (countDraw s).params = s.params := rfl
@[simp] theorem countDraw_inputs : (countDraw s).inputs = s.inputs := rfl
@[simp] theorem countDraw_responses : (countDraw s).responses = s.responses := rfl
@[simp] theorem countDraw_draws : (countDraw s).draws = s.draws + 1 := rfl

/-! ### refuseAccess -/

@[simp] theorem refuseAccess_eq : refuseAccess s = respond .slverr s := rfl

/-! ### powerUp and resetBlock -/

@[simp] theorem powerUp_ib (p : Params) : (State.powerUp p).ib = [] := rfl
@[simp] theorem powerUp_wb (p : Params) : (State.powerUp p).wb = [] := rfl
@[simp] theorem powerUp_filtLen (p : Params) : (State.powerUp p).filtLen = 0 := rfl
@[simp] theorem powerUp_filtOff (p : Params) : (State.powerUp p).filtOff = 0 := rfl
@[simp] theorem powerUp_fx (p : Params) : (State.powerUp p).fx = [] := rfl
@[simp] theorem powerUp_met (p : Params) : (State.powerUp p).met = Metrics.zero := rfl
@[simp] theorem powerUp_frameReady (p : Params) : (State.powerUp p).frameReady = false := rfl
@[simp] theorem powerUp_irqEn (p : Params) : (State.powerUp p).irqEn = false := rfl
@[simp] theorem powerUp_dupSuspected (p : Params) : (State.powerUp p).dupSuspected = false := rfl
@[simp] theorem powerUp_result (p : Params) : (State.powerUp p).result = .ok := rfl
@[simp] theorem powerUp_params (p : Params) : (State.powerUp p).params = p := rfl
@[simp] theorem powerUp_inputs (p : Params) : (State.powerUp p).inputs = [] := rfl
@[simp] theorem powerUp_responses (p : Params) : (State.powerUp p).responses = [] := rfl
@[simp] theorem powerUp_draws (p : Params) : (State.powerUp p).draws = 0 := rfl

theorem powerUp_prev_invalid (p : Params) (h : p.trkReset = .invalid) :
    (State.powerUp p).prev = Metrics.zero ∧ (State.powerUp p).prevValid = false := by
  simp [State.powerUp, h]

theorem powerUp_prev_valid (p : Params) (m : Metrics) (h : p.trkReset = .valid m) :
    (State.powerUp p).prev = m ∧ (State.powerUp p).prevValid = true := by
  simp [State.powerUp, h]

@[simp] theorem resetBlock_ib : (resetBlock s).ib = [] := rfl
@[simp] theorem resetBlock_wb : (resetBlock s).wb = [] := rfl
@[simp] theorem resetBlock_filtLen : (resetBlock s).filtLen = 0 := rfl
@[simp] theorem resetBlock_filtOff : (resetBlock s).filtOff = 0 := rfl
@[simp] theorem resetBlock_fx : (resetBlock s).fx = [] := rfl
@[simp] theorem resetBlock_met : (resetBlock s).met = Metrics.zero := rfl
@[simp] theorem resetBlock_prev : (resetBlock s).prev = (State.powerUp s.params).prev := rfl
@[simp] theorem resetBlock_prevValid : (resetBlock s).prevValid = (State.powerUp s.params).prevValid := rfl
@[simp] theorem resetBlock_frameReady : (resetBlock s).frameReady = false := rfl
@[simp] theorem resetBlock_irqEn : (resetBlock s).irqEn = false := rfl
@[simp] theorem resetBlock_dupSuspected : (resetBlock s).dupSuspected = false := rfl
@[simp] theorem resetBlock_result : (resetBlock s).result = .ok := rfl
@[simp] theorem resetBlock_params : (resetBlock s).params = s.params := rfl
@[simp] theorem resetBlock_inputs : (resetBlock s).inputs = s.inputs := rfl
@[simp] theorem resetBlock_responses : (resetBlock s).responses = s.responses := rfl
@[simp] theorem resetBlock_draws : (resetBlock s).draws = s.draws := rfl

/-! ### frameIrq: what it leaves alone, and its three cases (R182) -/

@[simp] theorem frameIrq_ib : (frameIrq s).ib = s.ib := by
  unfold frameIrq; split <;> [rfl; split <;> rfl]
@[simp] theorem frameIrq_wb : (frameIrq s).wb = s.wb := by
  unfold frameIrq; split <;> [rfl; split <;> rfl]
@[simp] theorem frameIrq_filtLen : (frameIrq s).filtLen = s.filtLen := by
  unfold frameIrq; split <;> [rfl; split <;> rfl]
@[simp] theorem frameIrq_filtOff : (frameIrq s).filtOff = s.filtOff := by
  unfold frameIrq; split <;> [rfl; split <;> rfl]
@[simp] theorem frameIrq_fx : (frameIrq s).fx = s.fx := by
  unfold frameIrq; split <;> [rfl; split <;> rfl]
@[simp] theorem frameIrq_met : (frameIrq s).met = s.met := by
  unfold frameIrq; split <;> [rfl; split <;> rfl]
@[simp] theorem frameIrq_prev : (frameIrq s).prev = s.prev := by
  unfold frameIrq; split <;> [rfl; split <;> rfl]
@[simp] theorem frameIrq_prevValid : (frameIrq s).prevValid = s.prevValid := by
  unfold frameIrq; split <;> [rfl; split <;> rfl]
@[simp] theorem frameIrq_irqEn : (frameIrq s).irqEn = s.irqEn := by
  unfold frameIrq; split <;> [rfl; split <;> rfl]
@[simp] theorem frameIrq_result : (frameIrq s).result = s.result := by
  unfold frameIrq; split <;> [rfl; split <;> rfl]
@[simp] theorem frameIrq_params : (frameIrq s).params = s.params := by
  unfold frameIrq; split <;> [rfl; split <;> rfl]
@[simp] theorem frameIrq_inputs : (frameIrq s).inputs = s.inputs := by
  unfold frameIrq; split <;> [rfl; split <;> rfl]
@[simp] theorem frameIrq_responses : (frameIrq s).responses = s.responses := by
  unfold frameIrq; split <;> [rfl; split <;> rfl]
@[simp] theorem frameIrq_draws : (frameIrq s).draws = s.draws := by
  unfold frameIrq; split <;> [rfl; split <;> rfl]

theorem frameIrq_disabled (h : s.irqEn = false) : frameIrq s = s := by simp [frameIrq, h]

theorem frameIrq_first (h : s.irqEn = true) (hr : s.frameReady = false) :
    frameIrq s = setFrameReady true s := by simp [frameIrq, h, hr]

theorem frameIrq_second (h : s.irqEn = true) (hr : s.frameReady = true) :
    frameIrq s = setDupSuspected true s := by simp [frameIrq, h, hr]

/-! ### An event and the environment's fields do not meet -/

theorem frameIrq_setInputs (rest : List Input) :
    frameIrq (setInputs rest s) = setInputs rest (frameIrq s) := by
  unfold frameIrq
  cases h : s.irqEn <;> cases h' : s.frameReady <;> simp [h, h'] <;> rfl

theorem frameIrq_respond (r : Response) : frameIrq (respond r s) = respond r (frameIrq s) := by
  unfold frameIrq
  cases h : s.irqEn <;> cases h' : s.frameReady <;> simp [h, h'] <;> rfl

theorem frameIrq_countDraw : frameIrq (countDraw s) = countDraw (frameIrq s) := by
  unfold frameIrq
  cases h : s.irqEn <;> cases h' : s.frameReady <;> simp [h, h'] <;> rfl

end Sys2Proof.Machine
end

