-- ==== Sys2Proof/Laws/Port.lean ====
section
/-! SUPPORT. What each shared operation of the host port and of the commands can do, said once; and what a
step can do, by the input it consumes. -/

namespace Sys2Proof.Machine

/-! ### How the decoding commands end -/

@[simp] theorem finishDecode_ok (m : List Byte) (s : State) :
    finishDecode (.ok m) s = report .ok (setWork m s) := rfl

@[simp] theorem finishDecode_error (c : ResultCode) (s : State) :
    finishDecode (.error c) s = report c (setWork [] s) := rfl

/-- A decoding command writes `WB` and `RESULT` and nothing else. -/
theorem finishDecode_cases (r : Except ResultCode (List Byte)) (s : State) :
    ∃ c d, finishDecode r s = report c (setWork d s) := by
  cases r with
  | ok m => exact ⟨.ok, m, rfl⟩
  | error c => exact ⟨c, [], rfl⟩

/-! ### Reads -/

/-- A byte read depends on FILT_MAX, `FX` and `WB` alone. -/
theorem readByte_congr {s t : State} (hp : t.params = s.params) (hf : t.fx = s.fx) (hw : t.wb = s.wb)
    (a : Addr) : readByte t a = readByte s a := by
  unfold readByte inFx inWb readFx
  rw [hp, hf, hw]

/-! ### Writes -/

theorem pushByte_full (w : Word) (s : State) (h : s.ib.length = s.params.bufMax) :
    pushByte w s = respond .slverr s := by simp [pushByte, h]

theorem pushByte_room (w : Word) (s : State) (h : s.ib.length ≠ s.params.bufMax) :
    pushByte w s = respond .okay (appendFrame (w.setWidth 8) s) := by simp [pushByte, h]

theorem writeFiltCfg_refused (w : Word) (s : State) (h : s.params.filtMax < (w.extractLsb' 0 8).toNat) :
    writeFiltCfg w s = respond .slverr s := if_pos h

theorem writeFiltCfg_accepted (w : Word) (s : State) (h : (w.extractLsb' 0 8).toNat ≤ s.params.filtMax) :
    writeFiltCfg w s = respond .okay (setFilter (w.extractLsb' 0 8) (w.extractLsb' 8 8) s) :=
  if_neg (Nat.not_lt.mpr h)

/-- What a 4-byte write to an address other than `CMD` can do. -/
theorem writeRegister_cases (a : Addr) (w : Word) (s : State) :
    (writeRegister a w s = respond .slverr s) ∨
    (a = addrIbPush ∧ s.ib.length ≠ s.params.bufMax ∧
      writeRegister a w s = respond .okay (appendFrame (w.setWidth 8) s)) ∨
    (a = addrFiltCfg ∧ (w.extractLsb' 0 8).toNat ≤ s.params.filtMax ∧
      writeRegister a w s = respond .okay (setFilter (w.extractLsb' 0 8) (w.extractLsb' 8 8) s)) ∨
    ((a = addrMetRssi ∨ a = addrMetSnr ∨ a = addrMetFerr) ∧
      ∃ m, writeRegister a w s = respond .okay (setMetrics m s)) := by
  unfold writeRegister
  split
  · by_cases h : s.ib.length = s.params.bufMax
    · exact .inl (pushByte_full w s h)
    · exact .inr (.inl ⟨by assumption, h, pushByte_room w s h⟩)
  · split
    · by_cases h : (w.extractLsb' 0 8).toNat ≤ s.params.filtMax
      · exact .inr (.inr (.inl ⟨by assumption, h, writeFiltCfg_accepted w s h⟩))
      · exact .inl (writeFiltCfg_refused w s (Nat.lt_of_not_le h))
    · split
      · exact .inr (.inr (.inr ⟨.inl (by assumption), _, rfl⟩))
      · split
        · exact .inr (.inr (.inr ⟨.inr (.inl (by assumption)), _, rfl⟩))
        · split
          · exact .inr (.inr (.inr ⟨.inr (.inr (by assumption)), _, rfl⟩))
          · exact .inl rfl

/-- What a 1-byte write can do. -/
theorem writeByte_cases (a : Addr) (v : Byte) (s : State) :
    (inFx s a = false ∧ writeByte a v s = respond .slverr s) ∨
    (inFx s a = true ∧ writeByte a v s = respond .okay (writeFx a.toNat v s)) := by
  unfold writeByte
  cases h : inFx s a <;> simp

variable (run : Instr → State → Host.Outcome State Fault Refusal)

theorem writeCmd_command {w : Word} {i : Instr} (s : State) (h : decodeWord w = .command i) :
    writeCmd run w s = run i (respond .okay s) := by simp [writeCmd, h]

theorem writeCmd_reserved {w : Word} {why : Reserved} (s : State) (h : decodeWord w = .reserved why) :
    writeCmd run w s = .next (report .eBadCmd (respond .okay s)) := by simp [writeCmd, h]

/-- What a transaction can do: run a command, report a reserved word, write a register or a byte, answer
a read, or be refused. -/
theorem transact_cases (t : Transaction) (s : State) :
    (∃ w i, t = .w4 addrCmd w ∧ decodeWord w = .command i ∧
      transact run t s = run i (respond .okay s)) ∨
    (∃ w why, t = .w4 addrCmd w ∧ decodeWord w = .reserved why ∧
      transact run t s = .next (report .eBadCmd (respond .okay s))) ∨
    (∃ a w, t = .w4 a w ∧ a ≠ addrCmd ∧ transact run t s = .next (writeRegister a w s)) ∨
    (∃ a v, t = .w1 a v ∧ transact run t s = .next (writeByte a v s)) ∨
    (∃ a, t = .r4 a ∧ transact run t s = .next (respond (readRegister s a) s)) ∨
    (∃ a, t = .r1 a ∧ transact run t s = .next (respond (readByte s a) s)) := by
  cases t with
  | w4 a w =>
    by_cases ha : a = addrCmd
    · subst ha
      cases h : decodeWord w with
      | command i => exact .inl ⟨w, i, rfl, h, by simp [transact, writeCmd, h]⟩
      | reserved why => exact .inr (.inl ⟨w, why, rfl, h, by simp [transact, writeCmd, h]⟩)
    · exact .inr (.inr (.inl ⟨a, w, rfl, ha, if_neg ha⟩))
  | w1 a v => exact .inr (.inr (.inr (.inl ⟨a, v, rfl, rfl⟩)))
  | r4 a => exact .inr (.inr (.inr (.inr (.inl ⟨a, rfl, rfl⟩))))
  | r1 a => exact .inr (.inr (.inr (.inr (.inr ⟨a, rfl, rfl⟩))))

/-! ### Steps -/

theorem step_idle (s : State) (h : s.inputs = []) : step s = .next s := by simp [step, advance, h]

theorem step_transaction {t : Transaction} {rest : List Input} (s : State)
    (h : s.inputs = .transaction t :: rest) : step s = transact exec t (setInputs rest s) := by
  simp [step, advance, h]

theorem step_frameIrq {rest : List Input} (s : State) (h : s.inputs = .frameIrq :: rest) :
    step s = .next (frameIrq (setInputs rest s)) := by simp [step, advance, h]

theorem step_reset {rest : List Input} (s : State) (h : s.inputs = .reset :: rest) :
    step s = .next (resetBlock (setInputs rest s)) := by simp [step, advance, h]

theorem step_irqWith {t : Transaction} {rest : List Input} (s : State)
    (h : s.inputs = .irqWith t :: rest) : step s = coincide exec t (setInputs rest s) := by
  simp [step, advance, h]

theorem step_resetWith {t : Transaction} {rest : List Input} (s : State)
    (h : s.inputs = .resetWith t :: rest) : step s = .next (overrideTransaction t (setInputs rest s)) := by
  simp [step, advance, h]

@[simp] theorem okayResponse_r4 (a : Addr) (v : Word) : okayResponse (.r4 a) v = .okayWord v := rfl
@[simp] theorem okayResponse_w4 (a : Addr) (w v : Word) : okayResponse (.w4 a w) v = .okay := rfl
@[simp] theorem okayResponse_r1 (a : Addr) (v : Word) :
    okayResponse (.r1 a) v = .okayByte (v.setWidth 8) := rfl
@[simp] theorem okayResponse_w1 (a : Addr) (b : Byte) (v : Word) : okayResponse (.w1 a b) v = .okay := rfl

/-- An overridden transaction is answered by one of the two responses of its kind. -/
theorem overriddenResponse_cases (n : Nat) (t : Transaction) :
    (∃ v, overriddenResponse n t = okayResponse t v) ∨ overriddenResponse n t = .slverr := by
  unfold overriddenResponse
  split
  · exact .inl ⟨_, rfl⟩
  · exact .inr rfl

/-- An overridden transaction leaves the reset state and one more response. -/
theorem overrideTransaction_eq (t : Transaction) (s : State) :
    overrideTransaction t s = respond (overriddenResponse s.draws t) (resetBlock (countDraw s)) := rfl

/-- A coinciding event comes before or after the transaction. -/
theorem coincide_cases (t : Transaction) (s : State) :
    coincide run t s = transact run t (frameIrq (countDraw s)) ∨
    coincide run t s = thenIrq (transact run t (countDraw s)) := by
  unfold coincide
  split
  · exact .inl rfl
  · exact .inr rfl

end Sys2Proof.Machine
end

