-- ==== Sys2Proof/Tests/Slice0.lean ====
section
/-! SUPPORT. Tests of the model: one step each, on small states, expected results from
`95_test_vectors.md` or from the examples of the rules; and for each statement with hypotheses a witness
that meets them. -/

namespace Sys2Proof.Tests

open Sys2Proof.Machine

/-! ### Helpers -/

/-- What is seen of a next state. -/
def seen {α : Type} (o : Host.Outcome State Fault Refusal) (f : State → α) : Option α :=
  match o with
  | .next s => some (f s)
  | .fault _ => none
  | .refused _ => none

/-- The reset state with these buffers. -/
def withBuffers (ib wb : List Byte) : State := { State.reset with ib := ib, wb := wb }

/-- The reset state with these inputs pending. -/
def withInputs (inputs : List Input) : State := { State.reset with inputs := inputs }

/-- The codeword E10 of `95_test_vectors.md`. -/
def wordE10 : List Byte := [0x48, 0x45, 0x4C, 0x4C, 0x4F, 0x20, 0x57, 0xEF, 0xDB, 0x53, 0xF8]

/-- The word F4, E10 with errors at indices 3 and 4. -/
def wordF4 : List Byte := [0x48, 0x45, 0x4C, 0x4D, 0x15, 0x20, 0x57, 0xEF, 0xDB, 0x53, 0xF8]

/-- The word F5, three errors. -/
def wordF5 : List Byte := [0x49, 0x45, 0x4C, 0x4E, 0x4F, 0x20, 0x54, 0xEF, 0xDB, 0x53, 0xF8]

/-- "HELLO W". -/
def hello : List Byte := [0x48, 0x45, 0x4C, 0x4C, 0x4F, 0x20, 0x57]

/-- The metrics A of section 2.8. -/
def metricsA : Metrics := { rssi := 0xC2F00000, snr := 0x41200000, ferr := 0x43FA0000 }

/-! ### Well-formedness: every check refuses an ill-formed term -/

theorem test_ref_legal : Params.ref.wf = true := by decide +kernel
theorem test_wf_rows : ({ Params.ref with rows := 0 } : Params).wf = false := by decide
theorem test_wf_cols : ({ Params.ref with cols := 0 } : Params).wf = false := by decide
theorem test_wf_npar : ({ Params.ref with npar := 0 } : Params).wf = false := by decide
theorem test_wf_kMsg : ({ Params.ref with kMsg := 0 } : Params).wf = false := by decide
theorem test_wf_codeLength : ({ Params.ref with kMsg := 252 } : Params).wf = false := by decide
theorem test_wf_polyTooSmall : ({ Params.ref with gfPoly := 0x01D } : Params).wf = false := by decide
theorem test_wf_polyEven : ({ Params.ref with gfPoly := 0x11C } : Params).wf = false := by decide
theorem test_wf_polyNotPrimitive : ({ Params.ref with gfPoly := 0x11B } : Params).wf = false := by
  decide +kernel
theorem test_wf_fcr : ({ Params.ref with fcr := 255 } : Params).wf = false := by decide
theorem test_wf_bufMaxLow : ({ Params.ref with bufMax := 0 } : Params).wf = false := by decide
theorem test_wf_bufMaxHigh : ({ Params.ref with bufMax := 3585 } : Params).wf = false := by decide
theorem test_wf_filtMax : ({ Params.ref with filtMax := 129 } : Params).wf = false := by decide

/-! ### Decoding: the words of R80 and R81 written out bit by bit -/

theorem test_decode_clr : decodeWord 0b00000000000000000000000000000001 = .command .clr := by decide
theorem test_decode_copy : decodeWord 0b00000000000000000000000000000010 = .command .copy := by decide
theorem test_decode_deint : decodeWord 0b00000000000000000000000000000011 = .command .deint := by decide
theorem test_decode_strip : decodeWord 0b00000000000000000000000000000100 = .command .strip := by decide
theorem test_decode_rsdec : decodeWord 0b00000000000000000000000000000101 = .command .rsdec := by decide
theorem test_decode_decode : decodeWord 0b00000000000000000000000000000110 = .command .decode := by decide
theorem test_decode_filt : decodeWord 0b00000000000000000000000000000111 = .command .filt := by decide
theorem test_decode_trk : decodeWord 0b00000000000000000000000000001000 = .command .trk := by decide
theorem test_decode_begin : decodeWord 0b00000000000000000000000000001001 = .command .begin_ := by decide
theorem test_decode_rearm : decodeWord 0b00000000000000000000000000001010 = .command .rearm := by decide
theorem test_decode_zero : decodeWord 0 = .reserved .unknownOpcode := by decide
theorem test_decode_highBits : decodeWord 0x80000001 = .reserved .nonzeroHighBits := by decide
theorem test_table_word : decodeTableWord 32 0x0000000A = some .rearm := by decide
theorem test_first_command_runs :
    seen (step (State.reset.withFetchWord 32 0x00000006)) (fun s => s.result) = some .eLength := by decide

/-! ### Arithmetic and code (G3, G4, G9, G11, E7, E10) -/

theorem test_gfMul : gfMul 0x11D 0x80 0x02 = 0x1D ∧ gfMul 0x11D 0x53 0xCA = 0x8F := by decide
theorem test_gfMul_otherField : gfMul 0x11B 0x57 0x83 = 0xC1 := by decide
theorem test_gfInv : gfInv 0x11D 0x53 = 0x8C := by decide +kernel
theorem test_gfPow : gfPow 0x11D alpha 15 = 0x26 := by decide +kernel
theorem test_generator_fcr5 : generator { Params.ref with fcr := 5 } = [0x01, 0xFD, 0x10, 0xB6, 0x06] := by
  decide +kernel
theorem test_encode : encode Params.ref hello = wordE10 := by decide +kernel
theorem test_syndromes : syndromes Params.ref wordF4 = [0x83, 0xD3, 0x3F, 0x6F] := by decide +kernel
theorem test_inter : inter Params.ref [0, 1, 2, 3, 4, 5, 6] = [0, 3, 5, 1, 4, 6, 2] := by decide

/-! ### Commands -/

theorem test_clr : seen (exec .clr (withBuffers [1, 2] [3])) (fun s => (s.ib, s.wb)) = some ([], [3]) := by
  decide
theorem test_copy :
    seen (exec .copy (withBuffers [0x54, 0x69] [3])) (fun s => (s.ib, s.wb)) =
      some ([0x54, 0x69], [0x54, 0x69]) := by decide

/-- I6: a short block of 7 bytes. -/
theorem test_deint_partial :
    seen (exec .deint (withBuffers [0, 1, 2, 3, 4, 5, 6] [])) (fun s => s.wb) =
      some [0, 3, 6, 1, 4, 2, 5] := by decide

/-- I10: a full block and a partial block of 5. -/
theorem test_deint_twoBlocks :
    deint 3 4 (List.range 17) = [0, 3, 6, 9, 1, 4, 7, 10, 2, 5, 8, 11, 12, 15, 13, 16, 14] := by decide

/-- S2: only the last sentinel is removed. -/
theorem test_strip_run :
    seen (exec .strip (withBuffers [] [0x01, 0x02, 0xFF, 0xFF])) (fun s => s.wb) =
      some [0x01, 0x02, 0xFF] := by decide

/-- S8: the cut is at the last sentinel. -/
theorem test_strip_last :
    seen (exec .strip (withBuffers [] [0x01, 0xFF, 0x02, 0xFF, 0x03])) (fun s => s.wb) =
      some [0x01, 0xFF, 0x02] := by decide

/-- F4. -/
theorem test_rsdec_corrects :
    seen (exec .rsdec (withBuffers [] wordF4)) (fun s => (s.wb, s.result)) = some (hello, .ok) := by
  decide +kernel

/-- F5. -/
theorem test_rsdec_uncorrectable :
    seen (exec .rsdec (withBuffers [] wordF5)) (fun s => (s.wb, s.result)) = some ([], .uncorrectable) := by
  decide +kernel

/-- D2. -/
theorem test_decode_corrects :
    seen (exec .decode (withBuffers
      [0x48, 0x15, 0xDB, 0x45, 0x20, 0x53, 0x4C, 0x57, 0xF8, 0x4D, 0xEF, 0xFF] []))
      (fun s => (s.wb, s.result)) = some (hello, .ok) := by decide +kernel

/-- D6. -/
theorem test_decode_length :
    seen (exec .decode (withBuffers [0xFF, 0xFD, 0x0D, 0x01, 0xC3, 0xBB, 0x02] [1]))
      (fun s => (s.wb, s.result)) = some ([], .eLength) := by decide

/-- The state of Q1 to Q10: `filt_set 2, 1, 45 4C`. -/
def filterState (wb : List Byte) : State :=
  { withBuffers [] wb with filtLen := 2, filtOff := 1, fx := [(0x080, 0x45), (0x081, 0x4C)] }

/-- Q2 and Q4. -/
theorem test_filt_rejects :
    seen (exec .filt (filterState [0x48, 0x45, 0x4D, 0x4C])) (fun s => s.result) = some .filterRejected ∧
    seen (exec .filt (filterState [0x48, 0x45])) (fun s => s.result) = some .filterRejected := by decide

/-- Q1 and Q3. -/
theorem test_filt_passes :
    seen (exec .filt (filterState hello)) (fun s => s.result) = some .ok ∧
    seen (exec .filt (filterState [0x54, 0x69, 0x6E, 0x79, 0x00])) (fun s => s.result) = some .ok := by decide

/-- T6: the first TRK after reset is new, with all-zero metrics too. -/
theorem test_trk_first :
    seen (exec .trk State.reset) (fun s => (s.result, s.prevValid)) = some (.ok, true) := by decide

/-- T2. -/
theorem test_trk_spurious :
    seen (exec .trk { State.reset with met := metricsA, prev := metricsA, prevValid := true })
      (fun s => s.result) = some .spurious := by decide

/-- J6. -/
theorem test_begin :
    seen (exec .begin_ { State.reset with frameReady := true, irqEn := true, dupSuspected := true })
      statusWord = some 0x40 := by decide

/-- J10. -/
theorem test_rearm :
    seen (exec .rearm { State.reset with frameReady := true, irqEn := true, dupSuspected := true })
      statusWord = some 0x30 := by decide

/-! ### The host port and the other inputs -/

/-- H14. -/
theorem test_push :
    seen (step (withInputs [.transaction (.w4 0x008 0x148)])) (fun s => (s.ib, s.responses)) =
      some ([0x48], [.okay]) := by decide

/-- H12 and H13. -/
theorem test_filtCfg :
    seen (step (withInputs [.transaction (.w4 0x014 0x7)])) (fun s => s.responses) = some [.slverr] ∧
    seen (step (withInputs [.transaction (.w4 0x014 0xABCD0106)])) (fun s => (s.filtLen, s.filtOff)) =
      some (6, 1) := by decide

/-- H9. -/
theorem test_fx_window :
    seen (step (withInputs [.transaction (.r1 0x085)])) (fun s => s.responses) = some [.okayByte 0] ∧
    seen (step (withInputs [.transaction (.r1 0x086)])) (fun s => s.responses) = some [.slverr] := by decide

/-- H1, H7 and H8. -/
theorem test_refused_reads :
    seen (step (withInputs [.transaction (.r4 0x000)])) (fun s => s.responses) = some [.slverr] ∧
    seen (step (withInputs [.transaction (.r4 0x002)])) (fun s => s.responses) = some [.slverr] ∧
    seen (step (withInputs [.transaction (.r4 0x080)])) (fun s => s.responses) = some [.slverr] := by decide

/-- A read of `WB[0]`, and H11. -/
theorem test_wb_window :
    seen (step { withBuffers [] [0x48] with inputs := [.transaction (.r1 0x200)] }) (fun s => s.responses) =
      some [.okayByte 0x48] ∧
    seen (step { withBuffers [] [0x48] with inputs := [.transaction (.r1 0x201)] }) (fun s => s.responses) =
      some [.slverr] := by decide

/-- X3. -/
theorem test_reserved :
    seen (step (withInputs [.transaction (.w4 0x000 0x106)])) (fun s => (s.result, s.responses)) =
      some (.eBadCmd, [.okay]) := by decide

/-- J1, J3, J4. -/
theorem test_frameIrq :
    statusWord (frameIrq State.reset) = 0x00 ∧
    statusWord (frameIrq { State.reset with irqEn := true }) = 0x30 ∧
    statusWord (frameIrq { State.reset with irqEn := true, frameReady := true }) = 0x70 := by decide

/-- T8: the reset state of `TRK_RESET = valid(0, 0, 0)`. -/
theorem test_reset_valid :
    statusWord (State.powerUp { Params.ref with trkReset := .valid Metrics.zero }) = 0x80 := by decide

/-- The code numbers of R201 as a `STATUS` read answers them. -/
theorem test_status_codes :
    [ResultCode.ok, .spurious, .filterRejected, .uncorrectable, .eLength, .eBadCmd].map
      (fun c => readRegister { State.reset with result := c } 0x004) =
      [.okayWord 0, .okayWord 1, .okayWord 2, .okayWord 3, .okayWord 4, .okayWord 5] := by decide

theorem test_memory_canonical :
    Memory.write [(0x080, 0x45), (0x081, 0x4C)] 0x080 0 = [(0x081, 0x4C)] := by decide

/-- `filt_set 2, 1, 45 4C` writes the bytes before the length (R91). -/
theorem test_script_filtSet :
    scriptFiltSet 1 [0x45, 0x4C] = [.transaction (.w1 0x080 0x45), .transaction (.w1 0x081 0x4C),
      .transaction (.w4 0x014 0x00000102)] := by decide

/-- F4 and F5 by the reference algorithm. -/
theorem test_reference_decoder :
    (referenceDecode Params.ref wordF4).toOption = some hello ∧
    (referenceDecode Params.ref wordF5).toOption = none := by decide +kernel

end Sys2Proof.Tests
end

