-- ==== Sys2Proof/Tests/Witness.lean ====
section
/-! SUPPORT. For each statement with hypotheses, a concrete state and operands that meet all of them
together, clause by clause and at the boundaries of the ranges. -/

namespace Sys2Proof.Tests

open Sys2Proof.Machine

/-! ### Helpers -/

/-- REF with odd parity length 3 (T_CORR = 1). -/
def params3 : Params := { Params.ref with npar := 3 }

/-- REF with parity length 1 (T_CORR = 0, detection only). -/
def params1 : Params := { Params.ref with npar := 1 }

theorem params3_legal : params3.wf = true := by decide +kernel
theorem params1_legal : params1.wf = true := by decide +kernel

/-- A reset state whose previous-metrics store resets to zeros, valid. -/
def validReset : State := State.powerUp { Params.ref with trkReset := .valid Metrics.zero }

/-- The reset state with the interrupt input enabled and an input pending. -/
def enabledWith (ready : Bool) (inputs : List Input) : State :=
  { State.reset with irqEn := true, frameReady := ready, inputs := inputs }

theorem reset_inv : State.reset.Inv where
  params := test_ref_legal
  ib := by decide
  wb := by decide
  filtLen := by decide
  fxForm := by decide
  fxPlace := by decide
  prev := by decide

/-- The reset state with this result code and these inputs pending. -/
def withResult (c : ResultCode) (inputs : List Input) : State :=
  { State.reset with result := c, inputs := inputs }

/-- The invariant does not see the inputs. -/
theorem withInputs_inv (inputs : List Input) : (withInputs inputs).Inv :=
  ⟨reset_inv.1, reset_inv.2, reset_inv.3, reset_inv.4, reset_inv.5, reset_inv.6, reset_inv.7⟩

/-- A word at distance 0 from another of the same length is that word. -/
theorem eq_of_wordDist_zero {c w : List Byte} (hl : c.length = w.length) (h : wordDist c w = 0) :
    c = w := by
  induction c generalizing w with
  | nil => exact (List.length_eq_zero_iff.mp hl.symm).symm
  | cons a c ih =>
    cases w with
    | nil => simp at hl
    | cons b w =>
      rw [wordDist, List.zip_cons_cons, List.countP_cons] at h
      have hab : a = b := by by_contra hne; simp [hne] at h
      have hcw : wordDist c w = 0 := by rw [wordDist]; omega
      rw [hab, ih (by simpa using hl) hcw]

/-! ### Reset and construction -/

theorem witness_ResetLeavesTheResetState :
    ((withInputs [.reset]).inputs = .reset :: [] ∧ Input.reset.resets) ∧
    ((withInputs [.resetWith (.w4 0x000 1)]).inputs = .resetWith (.w4 0x000 1) :: [] ∧
      (Input.resetWith (.w4 0x000 1)).resets) ∧
    construct Params.ref = .next (State.powerUp Params.ref) ∧
    Params.ref.trkReset = .invalid ∧ validReset.params.trkReset = .valid Metrics.zero :=
  ⟨⟨rfl, .inl rfl⟩, ⟨rfl, .inr ⟨_, rfl⟩⟩, if_pos test_ref_legal, rfl, rfl⟩

theorem ref_powers_distinct (i j : Nat) (hij : i < j) (hj : j < 255) :
    gfPow Params.ref.gfPoly 0x02 i ≠ gfPow Params.ref.gfPoly 0x02 j := by
  have h : alphaGenerates Params.ref = true := by decide +kernel
  unfold alphaGenerates at h
  rw [show (0x01 : Byte) = gfPow Params.ref.gfPoly alpha 0 from rfl, gfOrbit_gfPow, distinctFrom_iff] at h
  intro e
  refine absurd (List.inj_on_of_nodup_map h.1 (List.mem_range.mpr (hij.trans hj)) (List.mem_range.mpr hj) ?_)
    (Nat.ne_of_lt hij)
  simpa [alpha] using e

theorem witness_ConstructionChecksTheParameters :
    (1 ≤ Params.ref.rows ∧ 1 ≤ Params.ref.cols ∧ 1 ≤ Params.ref.npar ∧ 1 ≤ Params.ref.kMsg ∧
      Params.ref.kMsg + Params.ref.npar ≤ 255 ∧ 0x101 ≤ Params.ref.gfPoly.toNat ∧
      Params.ref.gfPoly.toNat ≤ 0x1FF ∧ Params.ref.gfPoly.getLsbD 0 = true ∧
      (∀ i j : Nat, i < j → j < 255 → gfPow Params.ref.gfPoly 0x02 i ≠ gfPow Params.ref.gfPoly 0x02 j) ∧
      Params.ref.fcr ≤ 254 ∧ 1 ≤ Params.ref.bufMax ∧ Params.ref.bufMax ≤ 3584 ∧ Params.ref.filtMax ≤ 128) ∧
    ¬ 1 ≤ ({ Params.ref with rows := 0 } : Params).rows ∧
    ¬ ({ Params.ref with bufMax := 3585 } : Params).bufMax ≤ 3584 := by
  refine ⟨⟨?_, ?_, ?_, ?_, ?_, ?_, ?_, ?_, ref_powers_distinct, ?_, ?_, ?_, ?_⟩, ?_, ?_⟩ <;> decide

/-! ### Commands -/

theorem witness_StepRunsTheDecodedCommand :
    (withInputs [.transaction (.w4 0x000 0x0A)]).inputs = .transaction (.w4 0x000 0x0A) :: [] ∧
    decodeWord 0x0A = .command .rearm := by decide

theorem witness_ReservedWordReportsBadCommand :
    (withInputs [.transaction (.w4 0x000 0x0B)]).inputs = .transaction (.w4 0x000 0x0B) :: [] ∧
    ((0x00000000 : Word).toNat = 0 ∨ 0x0A < (0x00000000 : Word).toNat) ∧
    ((0x0000000B : Word).toNat = 0 ∨ 0x0A < (0x0000000B : Word).toNat) ∧
    ((0xFFFFFFFF : Word).toNat = 0 ∨ 0x0A < (0xFFFFFFFF : Word).toNat) := by decide

theorem witness_DeintCompletes :
    1 ≤ State.reset.params.rows ∧ 1 ≤ State.reset.params.cols ∧
    ({ State.reset with params := { Params.ref with rows := 1 } } : State).params.rows = 1 := by decide

theorem witness_RsdecCompletes :
    rsDecode Params.ref (withBuffers [] wordF4).wb = .ok hello ∧
    rsDecode Params.ref (withBuffers [] wordF5).wb = .error .uncorrectable ∧
    rsDecode Params.ref (withBuffers [] []).wb = .error .eLength := by decide +kernel

theorem witness_DecodeCompletes :
    rsDecode Params.ref (strip (deint 3 4 (withBuffers
      [0x48, 0x15, 0xDB, 0x45, 0x20, 0x53, 0x4C, 0x57, 0xF8, 0x4D, 0xEF, 0xFF] []).ib)) = .ok hello ∧
    rsDecode Params.ref (strip (deint 3 4 (withBuffers [0xFF] []).ib)) = .error .eLength := by
  decide +kernel

theorem witness_FiltReportsThePredicate :
    filterPass (filterState hello).wb 2 1 (fun i => readFx (filterState hello) (0x080 + i)) = true ∧
    filterPass (filterState [0x48]).wb 2 1 (fun i => readFx (filterState [0x48]) (0x080 + i)) = false := by
  decide

theorem witness_TrkDetectsDuplicates :
    (validReset.prevValid = true ∧ validReset.met.rssi = validReset.prev.rssi ∧
      validReset.met.snr = validReset.prev.snr ∧ validReset.met.ferr = validReset.prev.ferr) ∧
    ¬ (State.reset.prevValid = true ∧ State.reset.met.rssi = State.reset.prev.rssi ∧
      State.reset.met.snr = State.reset.prev.snr ∧ State.reset.met.ferr = State.reset.prev.ferr) := by decide

theorem witness_CommandsWriteOnlyTheirOperands :
    exec .clr State.reset = .next (report .ok (clearFrame State.reset)) ∧
    exec .rearm State.reset = .next (report .ok (setDupSuspected false (setIrqEn true State.reset))) ∧
    inFx State.reset 0x085 = true := ⟨rfl, rfl, by decide⟩

theorem witness_CommandsDependOnTheirOperandsOnly :
    (enabledWith true []).params = State.reset.params ∧ (enabledWith true []).ib = State.reset.ib ∧
    (enabledWith true []).wb = State.reset.wb ∧ (enabledWith true []).filtLen = State.reset.filtLen ∧
    (enabledWith true []).filtOff = State.reset.filtOff ∧
    (∀ i < State.reset.filtLen.toNat,
      readFx (enabledWith true []) (0x080 + i) = readFx State.reset (0x080 + i)) ∧
    (∃ t, exec .deint (enabledWith true []) = .next t) ∧ (∃ t, exec .strip (enabledWith true []) = .next t) ∧
    (∃ t, exec .rsdec (enabledWith true []) = .next t) ∧ (∃ t, exec .decode (enabledWith true []) = .next t) ∧
    (∃ t, exec .filt (enabledWith true []) = .next t) :=
  ⟨rfl, rfl, rfl, rfl, rfl, fun _ _ => rfl, ⟨_, rfl⟩, ⟨_, rfl⟩, ⟨_, rfl⟩, ⟨_, rfl⟩, ⟨_, rfl⟩⟩

/-! ### The interrupt input -/

theorem witness_FrameIrqSetsTheFlags :
    ((withInputs [.frameIrq]).inputs = .frameIrq :: [] ∧ (withInputs [.frameIrq]).irqEn = false) ∧
    ((enabledWith false [.frameIrq]).irqEn = true ∧ (enabledWith false [.frameIrq]).frameReady = false) ∧
    ((enabledWith true [.frameIrq]).irqEn = true ∧ (enabledWith true [.frameIrq]).frameReady = true) := by
  decide

theorem witness_CoincidingEventTakesEitherOrder :
    (enabledWith true [.irqWith (.w4 0x000 0x09)]).inputs = .irqWith (.w4 0x000 0x09) :: [] := rfl

theorem witness_EventsCommuteWithDataCommands :
    Instr.decode ≠ .begin_ ∧ Instr.decode ≠ .rearm ∧
    ∃ t, exec .decode (enabledWith false []) = .next t := ⟨by decide, by decide, _, rfl⟩

theorem witness_DisabledInputStaysDeadUntilRearm :
    (withInputs [.frameIrq, scriptCmd .begin_]).irqEn = false ∧
    (∀ h ∈ (withInputs [.frameIrq, scriptCmd .begin_]).inputs.take 2, ¬ h.runs .rearm) ∧
    ∃ t, core.run 2 (withInputs [.frameIrq, scriptCmd .begin_]) = .next t :=
  ⟨rfl, by decide, _, rfl⟩

/-- TRK, an event, TRK from reset. -/
theorem witness_SecondTrackOfEqualMetricsIsSpurious :
    ∃ s1 s2 s3 : State,
      (withInputs [scriptCmd .trk, .frameIrq, scriptCmd .trk]).inputs =
        scriptCmd .trk :: [.frameIrq, scriptCmd .trk] ∧ (scriptCmd .trk).runs .trk ∧
      step (withInputs [scriptCmd .trk, .frameIrq, scriptCmd .trk]) = .next s1 ∧
      (∀ k ∈ [Input.frameIrq, scriptCmd .trk].take 1, ¬ k.runs .trk ∧ ¬ k.resets) ∧
      core.run 1 s1 = .next s2 ∧ s2.inputs = scriptCmd .trk :: [] ∧
      s2.met = (withInputs [scriptCmd .trk, .frameIrq, scriptCmd .trk]).met ∧ step s2 = .next s3 := by
  refine ⟨_, _, _, rfl, .inl rfl, rfl, fun k hk => ?_, rfl, rfl, rfl, rfl⟩
  obtain rfl : k = .frameIrq := by simpa using hk
  exact ⟨by decide, by rintro (h | ⟨t, h⟩) <;> cases h⟩

/-! ### The host port -/

theorem witness_PushAppendsOneByte :
    (withInputs [.transaction (.w4 0x008 0x148)]).inputs = .transaction (.w4 0x008 0x148) :: [] ∧
    (withInputs [.transaction (.w4 0x008 0x148)]).ib.length ≠ Params.ref.bufMax ∧
    (withBuffers (List.replicate 254 0) []).ib.length ≠ Params.ref.bufMax ∧
    (withBuffers (List.replicate 255 0) []).ib.length = Params.ref.bufMax := by decide +kernel

theorem witness_LengthRegistersReadTheLengths :
    (withInputs [.transaction (.r4 0x00C)]).Inv ∧
    (withInputs [.transaction (.r4 0x00C)]).inputs = .transaction (.r4 0x00C) :: [] ∧
    (withInputs [.transaction (.r4 0x010)]).Inv ∧
    (withInputs [.transaction (.r4 0x010)]).inputs = .transaction (.r4 0x010) :: [] ∧
    (withInputs [.transaction (.w4 0x00C 0)]).Inv ∧
    (withInputs [.transaction (.w4 0x00C 0)]).inputs = .transaction (.w4 0x00C 0) :: [] :=
  ⟨withInputs_inv _, rfl, withInputs_inv _, rfl, withInputs_inv _, rfl⟩

theorem witness_FilterConfigurationRegister :
    (withInputs [.transaction (.r4 0x014)]).inputs = .transaction (.r4 0x014) :: [] ∧
    (withInputs [.transaction (.w4 0x014 7)]).inputs = .transaction (.w4 0x014 7) :: [] ∧
    Params.ref.filtMax < ((7 : Word).setWidth 8).toNat ∧
    ((6 : Word).setWidth 8).toNat ≤ Params.ref.filtMax := by decide

theorem witness_ExpectedBytesReadAndWrite :
    0x080 ≤ (0x080 : Addr).toNat ∧ 0x080 ≤ (0x085 : Addr).toNat ∧
    (0x085 : Addr).toNat < 0x080 + (withInputs [.transaction (.r1 0x085)]).params.filtMax ∧
    Memory.wf (withInputs [.transaction (.r1 0x085)]).fx ∧
    (withInputs [.transaction (.r1 0x085)]).inputs = .transaction (.r1 0x085) :: [] ∧
    (withInputs [.transaction (.w1 0x085 1)]).inputs = .transaction (.w1 0x085 1) :: [] := by decide

theorem witness_MetricRegistersReadAndWrite :
    (withInputs [.transaction (.r4 0x018)]).inputs = .transaction (.r4 0x018) :: [] ∧
    (withInputs [.transaction (.r4 0x01C)]).inputs = .transaction (.r4 0x01C) :: [] ∧
    (withInputs [.transaction (.r4 0x020)]).inputs = .transaction (.r4 0x020) :: [] ∧
    (withInputs [.transaction (.w4 0x018 1)]).inputs = .transaction (.w4 0x018 1) :: [] ∧
    (withInputs [.transaction (.w4 0x01C 1)]).inputs = .transaction (.w4 0x01C 1) :: [] ∧
    (withInputs [.transaction (.w4 0x020 1)]).inputs = .transaction (.w4 0x020 1) :: [] := by decide

theorem witness_PreviousMetricsAreReadOnly :
    (withInputs [.transaction (.r4 0x024)]).inputs = .transaction (.r4 0x024) :: [] ∧
    (withInputs [.transaction (.r4 0x028)]).inputs = .transaction (.r4 0x028) :: [] ∧
    (withInputs [.transaction (.r4 0x02C)]).inputs = .transaction (.r4 0x02C) :: [] ∧
    (0x02C : Addr) ∈ [(0x024 : Addr), 0x028, 0x02C] ∧
    (withInputs [.transaction (.w4 0x02C 1)]).inputs = .transaction (.w4 0x02C 1) :: [] ∧
    State.reset.Inv ∧ State.reset.prevValid = false :=
  ⟨rfl, rfl, rfl, by decide, rfl, reset_inv, rfl⟩

theorem witness_WorkBufferWindow :
    (withBuffers [] [0x48]).params.filtMax ≤ 128 ∧ 0x200 ≤ (0x200 : Addr).toNat ∧
    ({ withBuffers [] [0x48] with inputs := [.transaction (.r1 0x200)] } : State).inputs =
      .transaction (.r1 0x200) :: [] ∧
    (withBuffers [] [0x48]).wb[(0x200 : Addr).toNat - 0x200]? = some 0x48 ∧
    (withBuffers [] [0x48]).wb.length ≤ (0x201 : Addr).toNat - 0x200 := by decide

theorem witness_StatusReadsTheFields :
    ∀ c ∈ [ResultCode.ok, .spurious, .filterRejected, .uncorrectable, .eLength, .eBadCmd],
      (withResult c [.transaction (.r4 0x004)]).inputs = .transaction (.r4 0x004) :: [] ∧
      (withResult c [.transaction (.r4 0x004)]).result = c := by decide

theorem witness_EveryTransactionIsAnswered :
    (withInputs [.transaction (.w1 0x086 1)]).inputs = .transaction (.w1 0x086 1) :: [] := rfl

theorem witness_RefusedAccessesAreExactlyTheListed :
    (Transaction.r4 0x000).illegal State.reset ∧ ¬ (Transaction.r4 0x004).illegal State.reset ∧
    (Transaction.w4 0x004 0).illegal State.reset ∧ (Transaction.w4 0x014 7).illegal State.reset ∧
    ¬ (Transaction.w4 0x014 6).illegal State.reset ∧ (Transaction.r1 0x086).illegal State.reset ∧
    ¬ (Transaction.r1 0x085).illegal State.reset ∧ (Transaction.w1 0x07F 0).illegal State.reset ∧
    ¬ (Transaction.w1 0x080 0).illegal State.reset := by
  simp only [Transaction.illegal]
  decide

theorem witness_ReadsChangeNothing :
    (withInputs [.transaction (.r4 0xFFC)]).inputs = .transaction (.r4 0xFFC) :: [] ∧
    (withInputs [.transaction (.r1 0x080)]).inputs = .transaction (.r1 0x080) :: [] := ⟨rfl, rfl⟩

theorem witness_CommandWritesAlwaysComplete :
    (withInputs [.transaction (.w4 0x000 0xFFFFFFFF)]).inputs =
      .transaction (.w4 0x000 0xFFFFFFFF) :: [] ∧
    (∀ w ∈ [(0x01 : Word), 0x02, 0x03, 0x04, 0x05, 0x06, 0x07, 0x08, 0x09, 0x0A],
      (withInputs [.transaction (.w4 0x000 w)]).inputs = .transaction (.w4 0x000 w) :: []) ∧
    ((0x00 : Word).toNat = 0 ∧ 0x0A < (0x0B : Word).toNat) ∧
    (rsDecode State.reset.params wordF4 = .ok hello ∧
      rsDecode State.reset.params wordF5 = .error .uncorrectable) ∧
    ((validReset.prevValid = true ∧ validReset.met = validReset.prev) ∧
      ¬ (State.reset.prevValid = true ∧ State.reset.met = State.reset.prev)) ∧
    (filterPass (filterState hello).wb 2 1 (fun i => readFx (filterState hello) (0x080 + i)) = true ∧
      filterPass (filterState [0x48]).wb 2 1 (fun i => readFx (filterState [0x48]) (0x080 + i)) = false) :=
  ⟨rfl, fun _ _ => rfl, by decide, by decide +kernel, by decide, by decide⟩

/-! ### Whole-machine rules -/

theorem witness_StepKeepsTheInvariant :
    State.reset.Inv ∧ step State.reset = .next State.reset ∧
    (withInputs [scriptPush 0x48]).Inv ∧ ∃ t, step (withInputs [scriptPush 0x48]) = .next t :=
  ⟨reset_inv, rfl, withInputs_inv _, _, rfl⟩

theorem witness_ResetSatisfiesTheInvariant : Params.ref.wf = true ∧ params3.wf = true :=
  ⟨test_ref_legal, params3_legal⟩

theorem witness_ParametersNeverChange : step State.reset = .next State.reset := rfl

theorem witness_StepsWriteByTheMatrix :
    (withInputs [scriptCmd .rearm]).inputs = scriptCmd .rearm :: [] ∧
    (∃ t, step (withInputs [scriptCmd .rearm]) = .next t ∧ t.irqEn ≠ (withInputs [scriptCmd .rearm]).irqEn) ∧
    (withInputs [scriptWrb 0x085 1]).inputs = scriptWrb 0x085 1 :: [] ∧
    (∃ t, step (withInputs [scriptWrb 0x085 1]) = .next t ∧ t.fx ≠ (withInputs [scriptWrb 0x085 1]).fx ∧
      readFx t 0x085 ≠ readFx (withInputs [scriptWrb 0x085 1]) 0x085) ∧
    (withInputs [scriptWr 0x020 1]).inputs = scriptWr 0x020 1 :: [] ∧
    ∃ t, step (withInputs [scriptWr 0x020 1]) = .next t ∧
      t.met.ferr ≠ (withInputs [scriptWr 0x020 1]).met.ferr :=
  ⟨rfl, ⟨_, rfl, by decide⟩, rfl, ⟨_, rfl, by decide, by decide⟩, rfl, _, rfl, by decide⟩

/-! ### De-interleaver and strip -/

theorem witness_DeintOfAFullBlock :
    11 < 3 * 4 ∧ (1 + 1) * (3 * 4) ≤ (List.replicate 24 (0 : Byte)).length := by decide

theorem witness_DeintPermutesAndSkipsMissingCells : 1 ≤ Params.ref.rows ∧ 1 ≤ Params.ref.cols := by decide

theorem witness_InterIsTheInverseOfDeint :
    1 ≤ Params.ref.rows ∧ 1 ≤ Params.ref.cols ∧
    ([0, 3, 5, 1, 4, 6, 2] : List Byte).length = ([0, 1, 2, 3, 4, 5, 6] : List Byte).length ∧
    deint Params.ref.rows Params.ref.cols ([0, 3, 5, 1, 4, 6, 2] : List Byte) = [0, 1, 2, 3, 4, 5, 6] ∧
    (List.replicate 12 (0 : Byte)).length % (Params.ref.rows * Params.ref.cols) = 0 ∧
    11 < Params.ref.rows * Params.ref.cols ∧
    (0 + 1) * (Params.ref.rows * Params.ref.cols) ≤ (List.replicate 12 (0 : Byte)).length := by decide

theorem witness_StripCutsAtTheLastSentinel :
    (0xFF : Byte) ∉ ([] : List Byte) ∧ (0xFF : Byte) ∉ ([0x00, 0xFE] : List Byte) := by decide

/-! ### Arithmetic and code -/

theorem witness_MultiplicationIsACommutativeRing : Params.ref.wf = true := test_ref_legal

theorem witness_AlphaGeneratesAndInversesExist : Params.ref.wf = true ∧ (0xFF : Byte) ≠ 0 :=
  ⟨test_ref_legal, by decide⟩

theorem witness_GeneratorHasTheConsecutiveRoots : Params.ref.wf = true ∧ 3 < Params.ref.npar :=
  ⟨test_ref_legal, by decide⟩

theorem witness_EncodeGivesTheOnlyCodeword :
    Params.ref.wf = true ∧ 1 ≤ hello.length ∧ hello.length ≤ Params.ref.kMsg ∧
    wordE10.length = hello.length + Params.ref.npar ∧ hello <+: wordE10 ∧
    isCodeword Params.ref wordE10 = true :=
  ⟨test_ref_legal, by decide, by decide, by decide, by decide, by decide +kernel⟩

/-- E10 and F6, two codewords 5 apart. -/
theorem witness_CodewordsAreFarApart :
    Params.ref.wf = true ∧ lengthLegal Params.ref wordE10.length = true ∧
    ([0x48, 0x45, 0x4C, 0x4C, 0x4F, 0x20, 0x56, 0xF1, 0x03, 0xB4, 0x8C] : List Byte).length = wordE10.length ∧
    isCodeword Params.ref wordE10 = true ∧
    isCodeword Params.ref [0x48, 0x45, 0x4C, 0x4C, 0x4F, 0x20, 0x56, 0xF1, 0x03, 0xB4, 0x8C] = true ∧
    wordE10 ≠ [0x48, 0x45, 0x4C, 0x4C, 0x4F, 0x20, 0x56, 0xF1, 0x03, 0xB4, 0x8C] :=
  ⟨test_ref_legal, by decide, by decide, by decide +kernel, by decide +kernel, by decide⟩

theorem hasCorrection_F4 : IsCorrection Params.ref wordF4 wordE10 :=
  ⟨by decide, by decide +kernel, by decide⟩

/-- F18: under `NPAR = 1` the word `01 03 03 06` has no correction. -/
theorem noCorrection_F18 : ¬ ∃ c, IsCorrection params1 [0x01, 0x03, 0x03, 0x06] c := by
  rintro ⟨c, hl, hc, hd⟩
  rw [eq_of_wordDist_zero hl (Nat.le_zero.mp hd)] at hc
  exact absurd hc (by decide +kernel)

theorem witness_RsDecodeMeetsItsContract :
    (Params.ref.wf = true ∧ params1.wf = true) ∧
    ([0xAB, 0x8E, 0xF1, 0x10] : List Byte).length ≤ Params.ref.npar ∧
    Params.ref.kMsg + Params.ref.npar < (List.replicate 256 (0 : Byte)).length ∧
    (Params.ref.npar < wordF4.length ∧ wordF4.length ≤ Params.ref.kMsg + Params.ref.npar ∧
      ∃ c, IsCorrection Params.ref wordF4 c) ∧
    (params1.npar < 4 ∧ 4 ≤ params1.kMsg + params1.npar ∧
      ¬ ∃ c, IsCorrection params1 [0x01, 0x03, 0x03, 0x06] c) :=
  ⟨⟨test_ref_legal, params1_legal⟩, by decide, by rw [List.length_replicate]; decide,
    ⟨by decide, by decide, _, hasCorrection_F4⟩, by decide, by decide, noCorrection_F18⟩

/-- F17: two errors under `NPAR = 3`. -/
theorem witness_DetectedErrorsAreUncorrectable :
    params3.wf = true ∧ lengthLegal params3 7 = true ∧
    isCodeword params3 [0x01, 0x02, 0x03, 0x04, 0xFA, 0xAA, 0x96] = true ∧
    tCorr params3 < wordDist [0x01, 0x02, 0x03, 0x04, 0xFA, 0xAA, 0x96]
      [0x11, 0x02, 0x03, 0x04, 0xFA, 0xDD, 0x96] ∧
    wordDist [0x01, 0x02, 0x03, 0x04, 0xFA, 0xAA, 0x96]
      [0x11, 0x02, 0x03, 0x04, 0xFA, 0xDD, 0x96] ≤ params3.npar - tCorr params3 :=
  ⟨params3_legal, by decide, by decide +kernel, by decide, by decide⟩

theorem witness_DecodingInvertsEncoding :
    Params.ref.wf = true ∧ 1 ≤ hello.length ∧ hello.length ≤ Params.ref.kMsg ∧
    wordF4.length = (encode Params.ref hello).length ∧
    wordDist wordF4 (encode Params.ref hello) ≤ tCorr Params.ref := by
  refine ⟨test_ref_legal, by decide, by decide, ?_, ?_⟩ <;> rw [test_encode] <;> decide

/-- D2: the word F4, a sentinel and no fill; D8: the codeword E10 without sentinel. -/
theorem witness_DecodeDeliversTheSentMessage :
    State.reset.params.wf = true ∧ 1 ≤ hello.length ∧ hello.length ≤ Params.ref.kMsg ∧
    wordF4.length = (encode Params.ref hello).length ∧
    wordDist wordF4 (encode Params.ref hello) ≤ tCorr Params.ref ∧
    ((0xFF : Byte) ∉ ([] : List Byte) ∧
      (withBuffers [0x48, 0x15, 0xDB, 0x45, 0x20, 0x53, 0x4C, 0x57, 0xF8, 0x4D, 0xEF, 0xFF] []).ib =
        inter Params.ref (wordF4 ++ 0xFF :: [])) ∧
    wordE10.length = (encode Params.ref hello).length ∧
    wordDist wordE10 (encode Params.ref hello) ≤ tCorr Params.ref ∧
    ((0xFF : Byte) ∉ wordE10 ∧
      (withBuffers [0x48, 0x4F, 0xDB, 0x45, 0x20, 0x53, 0x4C, 0x57, 0xF8, 0x4C, 0xEF] []).ib =
        inter Params.ref wordE10) := by
  rw [test_encode]
  exact ⟨test_ref_legal, by decide, by decide, by decide, by decide, by decide, rfl, by decide, by decide⟩

theorem witness_ReferenceDecoderIsSound : referenceDecode Params.ref wordF4 = .ok hello := by decide +kernel

/-! ### The packet filter -/

theorem witness_FilterProperties :
    filterPass [0x54, 0x45, 0x4C] 2 1 (fun i => if i = 0 then 0x45 else 0x4C) = true ∧ 0 < 2 ∧
    ¬ ([0x54, 0x69, 0x6E, 0x79] : List Byte) <+: [0x54, 0x45, 0x4C] := by decide

/-! ### The tracker's store -/

/-- A TRK with the stored triple, and an event. -/
theorem witness_TrackerStoreIsKept :
    validReset.prevValid = true ∧ validReset.prev = Metrics.zero ∧
    (∀ h ∈ [scriptCmd .trk].head?, ¬ h.resets ∧ (h.runs .trk → validReset.met = Metrics.zero)) ∧
    (∃ t, step { validReset with inputs := [scriptCmd .trk] } = .next t) ∧
    (∀ h ∈ [Input.frameIrq].head?, ¬ h.resets ∧ (h.runs .trk → validReset.met = Metrics.zero)) ∧
    (∃ t, step { validReset with inputs := [.frameIrq] } = .next t) := by
  refine ⟨rfl, rfl, fun h hh => ?_, ⟨_, rfl⟩, fun h hh => ?_, ⟨_, rfl⟩⟩ <;>
    obtain rfl := Option.some.inj hh <;>
    exact ⟨(by rintro (e | ⟨t, e⟩) <;> cases e), fun _ => rfl⟩

/-! ### Coinciding inputs and the responses -/

/-- An event with a refused write, and a reset with a transaction of each kind. -/
theorem witness_CoincidingTransactionIsAnswered :
    (withInputs [.irqWith (.w4 0x004 0)]).inputs = .irqWith (.w4 0x004 0) :: [] ∧
    ∀ t ∈ [Transaction.r4 0x004, .w4 0x000 0x01, .r1 0x085, .w1 0x080 0xFF],
      (withInputs [.resetWith t]).inputs = .resetWith t :: [] := ⟨rfl, fun _ _ => rfl⟩

end Sys2Proof.Tests
end

section
/-! What R6's check `Params.wf` decides, clause by clause, and the statement about construction. -/

namespace Sys2Proof.Machine

/-- The bit-set check of `alphaGenerates` decides that `0x02^0 .. 0x02^254` are pairwise distinct. -/
theorem alphaGenerates_iff (p : Params) :
    alphaGenerates p = true ↔
      ∀ i j : Nat, i < j → j < 255 → gfPow p.gfPoly alpha i ≠ gfPow p.gfPoly alpha j := by
  have horbit : gfOrbit p.gfPoly 255 0x01 = (List.range 255).map (gfPow p.gfPoly alpha) :=
    (gfOrbit_gfPow p.gfPoly 255 0).trans (by simp only [Nat.zero_add])
  have hdistinct : alphaGenerates p = true ↔ ((List.range 255).map (gfPow p.gfPoly alpha)).Nodup := by
    rw [alphaGenerates, horbit, distinctFrom_iff]
    simp only [Nat.zero_testBit, implies_true, and_true]
  rw [hdistinct, List.nodup_iff_pairwise_ne, List.pairwise_map, List.pairwise_iff_getElem]
  simp only [List.length_range, List.getElem_range]
  exact ⟨fun h i j hij hj => h i j (hij.trans hj) hj hij, fun h i j _ hj hij => h i j hij hj⟩

/-- `gfPolyShapeLegal` is the range of `GF_POLY` and its bit 0. -/
theorem gfPolyShapeLegal_iff (p : Params) :
    gfPolyShapeLegal p = true ↔
      0x101 ≤ p.gfPoly.toNat ∧ p.gfPoly.toNat ≤ 0x1FF ∧ p.gfPoly.getLsbD 0 = true := by
  simp only [gfPolyShapeLegal, Bool.and_eq_true, decide_eq_true_eq, and_assoc]

/-- `bufMaxLegal` is the range of `BUF_MAX`. -/
theorem bufMaxLegal_iff (p : Params) : bufMaxLegal p = true ↔ 1 ≤ p.bufMax ∧ p.bufMax ≤ 3584 := by
  simp only [bufMaxLegal, Bool.and_eq_true, decide_eq_true_eq]

theorem construct_of_wf {p : Params} (h : p.wf = true) : construct p = .next (State.powerUp p) := if_pos h

theorem construct_of_not_wf {p : Params} (h : ¬ p.wf = true) :
    construct p = .refused .illegalParameters := if_neg h

end Sys2Proof.Machine

namespace Sys2Proof

open Sys2Proof.Machine

/-- `Params.wf` decides the constraints of R6, in the order in which R6 lists them. -/
theorem Params.wf_iff (p : Params) :
    p.wf = true ↔
      1 ≤ p.rows ∧ 1 ≤ p.cols ∧ 1 ≤ p.npar ∧ 1 ≤ p.kMsg ∧ p.kMsg + p.npar ≤ 255 ∧
        0x101 ≤ p.gfPoly.toNat ∧ p.gfPoly.toNat ≤ 0x1FF ∧ p.gfPoly.getLsbD 0 = true ∧
        (∀ i j : Nat, i < j → j < 255 → gfPow p.gfPoly 0x02 i ≠ gfPow p.gfPoly 0x02 j) ∧
        p.fcr ≤ 254 ∧ 1 ≤ p.bufMax ∧ p.bufMax ≤ 3584 ∧ p.filtMax ≤ 128 := by
  have hpowers := alphaGenerates_iff p
  simp only [Params.wf, Bool.and_eq_true, rowsLegal, colsLegal, nparLegal, kMsgLegal, codeLengthLegal,
    fcrLegal, filtMaxLegal, decide_eq_true_eq, gfPolyShapeLegal_iff, bufMaxLegal_iff, and_assoc]
  constructor
  · rintro ⟨hrows, hcols, hnpar, hkMsg, hlen, hlow, hhigh, hodd, hfcr, hbuf, hbuf', hfilt, halpha⟩
    exact ⟨hrows, hcols, hnpar, hkMsg, hlen, hlow, hhigh, hodd, hpowers.mp halpha, hfcr, hbuf, hbuf', hfilt⟩
  · rintro ⟨hrows, hcols, hnpar, hkMsg, hlen, hlow, hhigh, hodd, halpha, hfcr, hbuf, hbuf', hfilt⟩
    exact ⟨hrows, hcols, hnpar, hkMsg, hlen, hlow, hhigh, hodd, hfcr, hbuf, hbuf', hfilt, hpowers.mpr halpha⟩

/-- Settles O2: `construct` branches on `Params.wf`, which decides exactly R6's constraints. -/
theorem constructionChecksTheParameters : Obligations.ConstructionChecksTheParameters := by
  intro p
  rw [← p.wf_iff]
  exact ⟨construct_of_wf, construct_of_not_wf, rfl, rfl⟩

end Sys2Proof
end

section
/-! The de-interleaver rearranges its input, for every length. -/

namespace Sys2Proof.Machine

/-! ### The cells of one block -/

theorem div_cols_lt {rows cols j : Nat} (h : j < rows * cols) : j / cols < rows :=
  Nat.div_lt_of_lt_mul (by rwa [Nat.mul_comm])

theorem writeStep_lt {rows cols j : Nat} (h : j < rows * cols) : writeStep rows cols j < rows * cols := by
  have hcols : 0 < cols := Nat.pos_of_mul_pos_left (Nat.zero_lt_of_lt h)
  calc writeStep rows cols j < (j % cols) * rows + rows := Nat.add_lt_add_left (div_cols_lt h) _
    _ = (j % cols + 1) * rows := (Nat.succ_mul _ _).symm
    _ ≤ cols * rows := Nat.mul_le_mul_right _ (Nat.mod_lt _ hcols)
    _ = rows * cols := Nat.mul_comm _ _

/-- The writer reaches no cell twice: column and row of a cell are quotient and remainder of its step. -/
theorem writeStep_injOn {rows cols i j : Nat} (hi : i < rows * cols) (hj : j < rows * cols)
    (h : writeStep rows cols i = writeStep rows cols j) : i = j := by
  have hrows : 0 < rows := Nat.zero_lt_of_lt (div_cols_lt hi)
  have hcol : i % cols = j % cols := by
    simpa [writeStep, Nat.add_div_of_dvd_right, Nat.div_eq_of_lt, div_cols_lt hi, div_cols_lt hj, hrows]
      using congrArg (· / rows) h
  have hrow : i / cols = j / cols := by
    rw [writeStep, writeStep, hcol] at h
    exact Nat.add_left_cancel h
  rw [← Nat.div_add_mod i cols, ← Nat.div_add_mod j cols, hcol, hrow]

/-- The reader visits every cell once. -/
theorem map_writeStep_perm (rows cols : Nat) :
    ((List.range (rows * cols)).map (writeStep rows cols)).Perm (List.range (rows * cols)) := by
  have hnodup : ((List.range (rows * cols)).map (writeStep rows cols)).Nodup :=
    List.nodup_range.map_on fun i hi j hj =>
      writeStep_injOn (List.mem_range.mp hi) (List.mem_range.mp hj)
  have hsubset : (List.range (rows * cols)).map (writeStep rows cols) ⊆ List.range (rows * cols) := by
    intro k hk
    obtain ⟨j, hj, rfl⟩ := List.mem_map.mp hk
    exact List.mem_range.mpr (writeStep_lt (List.mem_range.mp hj))
  exact (List.subperm_of_subset hnodup hsubset).perm_of_length_le (by simp)

/-- Visiting the indices below `n` in their order gives the first `n` elements. -/
theorem filterMap_range_getElem? {α : Type} (n : Nat) (x : List α) :
    (List.range n).filterMap (fun j => x[j]?) = x.take n := by
  induction n with
  | zero => rfl
  | succ n ih =>
    rw [List.range_succ, List.filterMap_append, ih, List.take_add_one]
    cases h : x[n]? <;> simp [h]

/-- One block is rearranged. -/
theorem deintBlock_perm {α : Type} {rows cols : Nat} {block : List α} (h : block.length ≤ rows * cols) :
    (deintBlock rows cols block).Perm block := by
  have hvisit : deintBlock rows cols block =
      ((List.range (rows * cols)).map (writeStep rows cols)).filterMap (fun j => block[j]?) := by
    rw [List.filterMap_map]; rfl
  have hperm := (map_writeStep_perm rows cols).filterMap (fun j => block[j]?)
  rwa [← hvisit, filterMap_range_getElem?, List.take_of_length_le h] at hperm

/-! ### The whole input -/

/-- The first `k` blocks are the first `k` block sizes of the input. -/
theorem flatMap_blockAt {α : Type} (size k : Nat) (x : List α) :
    (List.range k).flatMap (fun b => blockAt size (b * size) x) = x.take (k * size) := by
  induction k with
  | zero => simp
  | succ k ih =>
    rw [List.range_succ, List.flatMap_append, ih, Nat.succ_mul, List.take_add]
    simp [blockAt]

/-- The number of blocks covers the input. -/
theorem le_blocks_mul_size {n size : Nat} (h : 0 < size) : n ≤ (n + size - 1) / size * size := by
  have := Nat.lt_div_mul_add (a := n + size - 1) h
  omega

/-- R132: `deint` permutes its input, whatever the length. -/
theorem deint_perm {α : Type} {rows cols : Nat} (h : 0 < rows * cols) (x : List α) :
    (deint rows cols x).Perm x := by
  have hblocks : (deint rows cols x).Perm
      ((List.range ((x.length + rows * cols - 1) / (rows * cols))).flatMap
        (fun b => blockAt (rows * cols) (b * (rows * cols)) x)) :=
    List.Perm.flatMap_left _ fun b _ => deintBlock_perm (List.length_take_le _ _)
  rwa [flatMap_blockAt, List.take_of_length_le (le_blocks_mul_size h)] at hblocks

/-- With a dimension of 0, which R6 excludes, there is no block. -/
theorem deint_eq_nil {α : Type} {rows cols : Nat} (h : rows * cols = 0) (x : List α) :
    deint rows cols x = [] := by simp [deint, h]

theorem length_deint_le {α : Type} (rows cols : Nat) (x : List α) :
    (deint rows cols x).length ≤ x.length := by
  rcases Nat.eq_zero_or_pos (rows * cols) with h | h
  · rw [deint_eq_nil h]; exact Nat.zero_le _
  · exact (deint_perm h x).length_eq.le

end Sys2Proof.Machine
end

section
/-! What one input can do, said once for the whole machine: the invariant, the write matrix and the
constancy of the parameters are read off it. -/

namespace Sys2Proof.Machine

/-! ### Decoding back -/

theorem opcode_of_decodeOpcode {op : Byte} {i : Instr} (h : decodeOpcode op = .command i) :
    op = opcode i := by
  unfold decodeOpcode at h
  split_ifs at h <;> cases h <;> assumption

/-- R81: only the encoding of a command decodes to it. -/
theorem eq_encodeWord_of_decodeWord {w : Word} {i : Instr} (h : decodeWord w = .command i) :
    w = encodeWord i := by
  unfold decodeWord at h
  split at h
  · rename_i hhigh
    rw [encodeWord, ← opcode_of_decodeOpcode h, ← hhigh]
    exact (BitVec.extractLsb'_append_extractLsb' (w := 24) (len := 8)).symm
  · cases h

/-! ### What the commands write to `WB` -/

theorem strip_prefix (d : List Byte) : strip d <+: d := by
  rcases stripBelow_cases d d.length with h | ⟨i, -, h⟩
  · rw [strip, h]
  · rw [strip, h]; exact List.take_prefix i d

/-- RSDEC and DECODE leave at most as many bytes as the word they decode. -/
theorem finishDecode_rsDecode (p : Params) (w : List Byte) (s : State) :
    ∃ c d, finishDecode (rsDecode p w) s = report c (setWork d s) ∧ d.length ≤ w.length := by
  cases h : rsDecode p w with
  | ok m => exact ⟨.ok, m, rfl, by rw [length_rsDecode h]; exact Nat.sub_le _ _⟩
  | error c => exact ⟨c, [], rfl, Nat.zero_le _⟩

/-! ### The effect of an input -/

/-- What the input `h` can do to the block in state `s`, by its row of the write matrix (R38). The flags
that an event sets and the environment's fields are `EventFrame`'s. -/
inductive Effect (h : Input) (s : State) : State → Prop where
  | nothing : Effect h s s
  | push (w : Word) (hp : h.performs (.w4 addrIbPush w)) (hroom : s.ib.length ≠ s.params.bufMax) :
      Effect h s (appendFrame (w.setWidth 8) s)
  | filterCfg (w : Word) (hp : h.performs (.w4 addrFiltCfg w))
      (hlen : (w.extractLsb' 0 8).toNat ≤ s.params.filtMax) :
      Effect h s (setFilter (w.extractLsb' 0 8) (w.extractLsb' 8 8) s)
  | metRssi (w : Word) (hp : h.performs (.w4 addrMetRssi w)) :
      Effect h s (setMetrics { s.met with rssi := w } s)
  | metSnr (w : Word) (hp : h.performs (.w4 addrMetSnr w)) :
      Effect h s (setMetrics { s.met with snr := w } s)
  | metFerr (w : Word) (hp : h.performs (.w4 addrMetFerr w)) :
      Effect h s (setMetrics { s.met with ferr := w } s)
  | fxByte (a : Addr) (v : Byte) (hp : h.performs (.w1 a v)) (ha : inFx s a = true) :
      Effect h s (writeFx a.toNat v s)
  | reserved (w : Word) (hc : h.writesCmd w) (why : Reserved) (hw : decodeWord w = .reserved why) :
      Effect h s (report .eBadCmd s)
  | clr (hr : h.runs .clr) : Effect h s (report .ok (clearFrame s))
  /-- A buffer command leaves in `WB` no more than one of the buffers held. -/
  | work (i : Instr) (hr : h.runs i) (hi : i ∈ [.copy, .deint, .strip, .rsdec, .decode])
      (c : ResultCode) (d : List Byte) (hexec : exec i s = .next (report c (setWork d s)))
      (hlen : d.length ≤ max s.ib.length s.wb.length) (hstrip : i = .strip → d <+: s.wb) :
      Effect h s (report c (setWork d s))
  /-- FILT, and a TRK that finds a duplicate. -/
  | outcome (i : Instr) (hr : h.runs i) (hi : i ∈ [.filt, .trk]) (c : ResultCode)
      (hexec : exec i s = .next (report c s)) : Effect h s (report c s)
  | track (hr : h.runs .trk) (hnew : (s.prevValid && metricsEqual s.met s.prev) = false) :
      Effect h s (report .ok (trackMetrics s))
  | beginFrame (hr : h.runs .begin_) : Effect h s (report .ok (setFrameReady false (setIrqEn false s)))
  | rearm (hr : h.runs .rearm) : Effect h s (report .ok (setDupSuspected false (setIrqEn true s)))
  | reset (hr : h.resets) : Effect h s (resetBlock s)

/-- `t` is `s` up to the environment's fields and, where an event is part of the input and enabled, a flag
that the event sets (R182). -/
inductive EventFrame (h : Input) (s : State) : State → Prop where
  | mk (frameReady dupSuspected : Bool) (inputs : List Input) (responses : List Response) (draws : Nat)
      (hready : frameReady = s.frameReady ∨ (frameReady = true ∧ h.interrupts ∧ s.irqEn = true))
      (hdup : dupSuspected = s.dupSuspected ∨ (dupSuspected = true ∧ h.interrupts ∧ s.irqEn = true)) :
      EventFrame h s { s with
        frameReady := frameReady, dupSuspected := dupSuspected,
        inputs := inputs, responses := responses, draws := draws }

/-- The environment's fields do not matter. -/
theorem EventFrame.environment {h : Input} {s : State} {inputs : List Input} {responses : List Response}
    {draws : Nat} :
    EventFrame h s { s with inputs := inputs, responses := responses, draws := draws } :=
  ⟨s.frameReady, s.dupSuspected, inputs, responses, draws, .inl rfl, .inl rfl⟩

/-- One event changes a flag at most, to 1. -/
theorem EventFrame.frameIrq {h : Input} (hi : h.interrupts) (s : State) : EventFrame h s (frameIrq s) := by
  cases he : s.irqEn with
  | false => rw [frameIrq_disabled s he]; exact .environment
  | true =>
    cases hr : s.frameReady with
    | false => rw [frameIrq_first s he hr]; exact ⟨_, _, _, _, _, .inr ⟨rfl, hi, he⟩, .inl rfl⟩
    | true => rw [frameIrq_second s he hr]; exact ⟨_, _, _, _, _, .inl rfl, .inr ⟨rfl, hi, he⟩⟩

theorem EventFrame.trans {h : Input} {s t u : State} (hst : EventFrame h s t) (htu : EventFrame h t u) :
    EventFrame h s u := by
  obtain ⟨_, _, _, _, _, hready, hdup⟩ := hst
  obtain ⟨_, _, _, _, _, hready', hdup'⟩ := htu
  exact ⟨_, _, _, _, _, hready'.elim (fun e => e ▸ hready) .inr, hdup'.elim (fun e => e ▸ hdup) .inr⟩

/-! ### Each operation has such an effect -/

variable {h : Input} {s u : State}

theorem exec_trk_duplicate (hdup : (s.prevValid && metricsEqual s.met s.prev) = true) :
    exec .trk s = .next (report .spurious s) := if_pos hdup

theorem exec_trk_new (hnew : (s.prevValid && metricsEqual s.met s.prev) = false) :
    exec .trk s = .next (report .ok (trackMetrics s)) := by simp [exec, execTrk, hnew]

theorem effect_of_exec {i : Instr} (hr : h.runs i) (he : exec i s = .next u) : Effect h s u := by
  cases i with
  | clr => cases he; exact .clr hr
  | copy => cases he; exact .work .copy hr (by decide) _ _ rfl (le_max_left _ _) nofun
  | deint =>
    cases he
    exact .work .deint hr (by decide) _ _ rfl (le_max_of_le_left (length_deint_le _ _ _)) nofun
  | strip =>
    cases he
    exact .work .strip hr (by decide) _ _ rfl (le_max_of_le_right (length_strip_le _))
      fun _ => strip_prefix _
  | rsdec =>
    obtain ⟨c, d, hfinish, hd⟩ := finishDecode_rsDecode s.params s.wb s
    have hexec : exec .rsdec s = .next (report c (setWork d s)) := congrArg Host.Outcome.next hfinish
    cases he.symm.trans hexec
    exact .work .rsdec hr (by decide) c d hexec (le_max_of_le_right hd) nofun
  | decode =>
    obtain ⟨c, d, hfinish, hd⟩ :=
      finishDecode_rsDecode s.params (strip (deint s.params.rows s.params.cols s.ib)) s
    have hexec : exec .decode s = .next (report c (setWork d s)) := congrArg Host.Outcome.next hfinish
    have hlen : d.length ≤ s.ib.length := hd.trans ((length_strip_le _).trans (length_deint_le _ _ _))
    cases he.symm.trans hexec
    exact .work .decode hr (by decide) c d hexec (le_max_of_le_left hlen) nofun
  | filt => cases he; exact .outcome .filt hr (by decide) _ rfl
  | trk =>
    cases hdup : s.prevValid && metricsEqual s.met s.prev with
    | true =>
      cases he.symm.trans (exec_trk_duplicate hdup)
      exact .outcome .trk hr (by decide) _ (exec_trk_duplicate hdup)
    | false =>
      cases he.symm.trans (exec_trk_new hdup)
      exact .track hr hdup
  | begin_ => cases he; exact .beginFrame hr
  | rearm => cases he; exact .rearm hr

/-- A register write records its response; beside that it writes its own register or nothing. -/
theorem writeRegister_effect {a : Addr} {w : Word} (hp : h.performs (.w4 a w)) (s : State) :
    ∃ r, Effect h (respond r s) (writeRegister a w s) := by
  unfold writeRegister
  split_ifs with hib hfilt hrssi hsnr hferr
  · subst hib
    by_cases hroom : s.ib.length = s.params.bufMax
    · exact ⟨.slverr, by rw [pushByte_full w s hroom]; exact .nothing⟩
    · exact ⟨.okay, pushByte_room w s hroom ▸ .push (s := respond .okay s) w hp hroom⟩
  · subst hfilt
    rcases Nat.lt_or_ge s.params.filtMax (w.extractLsb' 0 8).toNat with hlen | hlen
    · exact ⟨.slverr, by rw [writeFiltCfg_refused w s hlen]; exact .nothing⟩
    · exact ⟨.okay, writeFiltCfg_accepted w s hlen ▸ .filterCfg (s := respond .okay s) w hp hlen⟩
  · exact ⟨.okay, .metRssi (s := respond .okay s) w (hrssi ▸ hp)⟩
  · exact ⟨.okay, .metSnr (s := respond .okay s) w (hsnr ▸ hp)⟩
  · exact ⟨.okay, .metFerr (s := respond .okay s) w (hferr ▸ hp)⟩
  · exact ⟨.slverr, .nothing⟩

theorem transact_effect {t : Transaction} (hp : h.performs t) (ht : transact exec t s = .next u) :
    ∃ r, Effect h (respond r s) u := by
  rcases transact_cases exec t s with ⟨w, i, rfl, hw, he⟩ | ⟨w, why, rfl, hw, he⟩ | ⟨a, w, rfl, -, he⟩ |
    ⟨a, v, rfl, he⟩ | ⟨a, rfl, he⟩ | ⟨a, rfl, he⟩ <;> rw [he] at ht
  · obtain rfl := eq_encodeWord_of_decodeWord hw
    exact ⟨.okay, effect_of_exec hp ht⟩
  · cases ht; exact ⟨.okay, .reserved w hp why hw⟩
  · cases ht; exact writeRegister_effect hp s
  · cases ht
    rcases writeByte_cases a v s with ⟨-, he⟩ | ⟨ha, he⟩
    · exact ⟨.slverr, he ▸ .nothing⟩
    · exact ⟨.okay, he ▸ .fxByte (s := respond .okay s) a v hp ha⟩
  · cases ht; exact ⟨_, .nothing⟩
  · cases ht; exact ⟨_, .nothing⟩

theorem thenIrq_eq_next {o : Host.Outcome State Fault Refusal} (ho : thenIrq o = .next u) :
    ∃ v, o = .next v ∧ u = frameIrq v := by
  cases o with
  | next v => cases ho; exact ⟨v, rfl, rfl⟩
  | fault r => cases ho
  | refused r => cases ho

/-- A step consumes its input: an event and bookkeeping, then the input's effect, then again an event and
bookkeeping. -/
theorem step_effect {rest : List Input} {t : State} (hs : s.inputs = h :: rest) (ht : step s = .next t) :
    ∃ s₀ u, EventFrame h s s₀ ∧ Effect h s₀ u ∧ EventFrame h u t := by
  cases h with
  | transaction tr =>
    rw [step_transaction s hs] at ht
    obtain ⟨r, he⟩ := transact_effect (.inl rfl) ht
    exact ⟨_, t, .environment, he, .environment⟩
  | frameIrq =>
    rw [step_frameIrq s hs] at ht
    cases ht
    exact ⟨_, _, .environment, .nothing, .frameIrq (.inl rfl) _⟩
  | reset =>
    rw [step_reset s hs] at ht
    cases ht
    exact ⟨_, _, .environment, .reset (.inl rfl), .environment⟩
  | irqWith tr =>
    have hi : (Input.irqWith tr).interrupts := .inr ⟨tr, rfl⟩
    rw [step_irqWith s hs] at ht
    rcases coincide_cases exec tr (setInputs rest s) with hc | hc <;> rw [hc] at ht
    · obtain ⟨r, he⟩ := transact_effect (.inr rfl) ht
      exact ⟨_, t, (EventFrame.environment.trans (.frameIrq hi _)).trans .environment, he,
        .environment⟩
    · obtain ⟨v, hv, rfl⟩ := thenIrq_eq_next ht
      obtain ⟨r, he⟩ := transact_effect (.inr rfl) hv
      exact ⟨_, v, .environment, he, .frameIrq hi v⟩
  | resetWith tr =>
    rw [step_resetWith s hs] at ht
    cases ht
    exact ⟨countDraw (setInputs rest s), _, .environment, .reset (.inr ⟨tr, rfl⟩), .environment⟩

end Sys2Proof.Machine
end

section
/-! The statements about every step: the invariant, the parameters and the write matrix, each read off
`step_effect`. -/

namespace Sys2Proof.Machine

variable {h : Input} {s t u : State}

theorem inFx_iff (s : State) (a : Addr) :
    inFx s a = true ↔ fxBase ≤ a.toNat ∧ a.toNat < fxBase + s.params.filtMax := by
  simp only [inFx, Bool.and_eq_true, decide_eq_true_eq]

/-! ### What an effect keeps -/

/-- The parameters are no state of the block (R34). -/
theorem Effect.params (he : Effect h s u) : u.params = s.params := by cases he <;> rfl

/-- R36: power-up with legal parameters has the invariant. -/
theorem powerUp_inv {p : Params} (hp : p.wf = true) : (State.powerUp p).Inv where
  params := hp
  ib := Nat.zero_le _
  wb := Nat.zero_le _
  filtLen := Nat.zero_le _
  fxForm := Memory.wf_nil
  fxPlace := nofun
  prev hinvalid := by
    cases ht : p.trkReset with
    | invalid => exact ⟨(powerUp_prev_invalid p ht).1, ht⟩
    | valid m => rw [(powerUp_prev_valid p m ht).2] at hinvalid; cases hinvalid

theorem writeFx_inv (hs : s.Inv) {a : Addr} (ha : inFx s a = true) (v : Byte) :
    (writeFx a.toNat v s).Inv :=
  { hs with
    fxForm := Memory.wf_write hs.fxForm _ _
    fxPlace := fun c hc => by
      rcases Memory.mem_write hc with ⟨he, -⟩ | hc
      · rw [he]; exact (inFx_iff s a).mp ha
      · exact hs.fxPlace c hc }

/-- R37, R25, R28: no effect leaves the invariant. -/
theorem Effect.inv (he : Effect h s u) (hs : s.Inv) : u.Inv := by
  cases he with
  | push w hp hroom => exact { hs with ib := by simpa using Nat.lt_of_le_of_ne hs.ib hroom }
  | filterCfg w hp hlen => exact { hs with filtLen := hlen }
  | fxByte a v hp ha => exact writeFx_inv hs ha v
  | clr hr => exact { hs with ib := Nat.zero_le _ }
  | work i hr hi c d hexec hlen hstrip => exact { hs with wb := hlen.trans (max_le hs.ib hs.wb) }
  | track hr => exact { hs with prev := nofun }
  | reset hr => exact { powerUp_inv hs.params with }
  | _ => exact { hs with }

theorem EventFrame.params (hf : EventFrame h s t) : t.params = s.params := by cases hf; rfl

/-- The invariant sees neither the flags nor the environment's fields. -/
theorem EventFrame.inv (hf : EventFrame h s t) (hs : s.Inv) : t.Inv := by
  cases hf; exact { hs with }

/-- A property that effects, events and the environment's fields keep is kept by every step. -/
theorem step_keeps {P : State → Prop} (heffect : ∀ h s u, Effect h s u → P s → P u)
    (hframe : ∀ h s u, EventFrame h s u → P s → P u) (ht : step s = .next t) (hs : P s) : P t := by
  cases hin : s.inputs with
  | nil => rw [step_idle s hin] at ht; cases ht; exact hs
  | cons h rest =>
    obtain ⟨s₀, u, hpre, he, hpost⟩ := step_effect hin ht
    exact hframe h u t hpost (heffect h s₀ u he (hframe h s s₀ hpre hs))

/-! ### What an effect writes, by component (R38) -/

theorem Effect.ib (he : Effect h s u) : u.ib = s.ib ∨
    (∃ w, h.performs (.w4 addrIbPush w) ∧ u.ib = s.ib ++ [w.setWidth 8]) ∨ (h.runs .clr ∧ u.ib = []) ∨
    h.resets := by
  cases he with
  | push w hp hroom => exact .inr (.inl ⟨w, hp, rfl⟩)
  | clr hr => exact .inr (.inr (.inl ⟨hr, rfl⟩))
  | reset hr => exact .inr (.inr (.inr hr))
  | _ => exact .inl rfl

theorem Effect.wb (he : Effect h s u) : u.wb = s.wb ∨ h.runs .copy ∨ h.runs .deint ∨
    (h.runs .strip ∧ u.wb <+: s.wb) ∨ h.runs .rsdec ∨ h.runs .decode ∨ h.resets := by
  cases he with
  | work i hr hi c d hexec hlen hstrip =>
    simp only [List.mem_cons, List.not_mem_nil, or_false] at hi
    rcases hi with rfl | rfl | rfl | rfl | rfl
    · exact .inr (.inl hr)
    · exact .inr (.inr (.inl hr))
    · exact .inr (.inr (.inr (.inl ⟨hr, hstrip rfl⟩)))
    · exact .inr (.inr (.inr (.inr (.inl hr))))
    · exact .inr (.inr (.inr (.inr (.inr (.inl hr)))))
  | reset hr => exact .inr (.inr (.inr (.inr (.inr (.inr hr)))))
  | _ => exact .inl rfl

theorem Effect.filter (he : Effect h s u) : (u.filtLen = s.filtLen ∧ u.filtOff = s.filtOff) ∨
    (∃ w, h.performs (.w4 addrFiltCfg w)) ∨ h.resets := by
  cases he with
  | filterCfg w hp hlen => exact .inr (.inl ⟨w, hp⟩)
  | reset hr => exact .inr (.inr hr)
  | _ => exact .inl ⟨rfl, rfl⟩

theorem Effect.fx (he : Effect h s u) : u.fx = s.fx ∨
    (∃ (a : Addr) (v : Byte), inFx s a = true ∧ h.performs (.w1 a v) ∧
      u.fx = Memory.write s.fx a.toNat v) ∨ h.resets := by
  cases he with
  | fxByte a v hp ha => exact .inr (.inl ⟨a, v, ha, hp, rfl⟩)
  | reset hr => exact .inr (.inr hr)
  | _ => exact .inl rfl

theorem Effect.rssi (he : Effect h s u) : u.met.rssi = s.met.rssi ∨
    (∃ w, h.performs (.w4 addrMetRssi w)) ∨ h.resets := by
  cases he with
  | metRssi w hp => exact .inr (.inl ⟨w, hp⟩)
  | reset hr => exact .inr (.inr hr)
  | _ => exact .inl rfl

theorem Effect.snr (he : Effect h s u) : u.met.snr = s.met.snr ∨
    (∃ w, h.performs (.w4 addrMetSnr w)) ∨ h.resets := by
  cases he with
  | metSnr w hp => exact .inr (.inl ⟨w, hp⟩)
  | reset hr => exact .inr (.inr hr)
  | _ => exact .inl rfl

theorem Effect.ferr (he : Effect h s u) : u.met.ferr = s.met.ferr ∨
    (∃ w, h.performs (.w4 addrMetFerr w)) ∨ h.resets := by
  cases he with
  | metFerr w hp => exact .inr (.inl ⟨w, hp⟩)
  | reset hr => exact .inr (.inr hr)
  | _ => exact .inl rfl

theorem Effect.prev (he : Effect h s u) : (u.prev = s.prev ∧ u.prevValid = s.prevValid) ∨
    h.runs .trk ∨ h.resets := by
  cases he with
  | track hr => exact .inr (.inl hr)
  | reset hr => exact .inr (.inr hr)
  | _ => exact .inl ⟨rfl, rfl⟩

theorem Effect.frameReady (he : Effect h s u) : u.frameReady = s.frameReady ∨
    (u.frameReady = false ∧ (h.runs .begin_ ∨ h.resets)) := by
  cases he with
  | beginFrame hr => exact .inr ⟨rfl, .inl hr⟩
  | reset hr => exact .inr ⟨rfl, .inr hr⟩
  | _ => exact .inl rfl

theorem Effect.irqEn (he : Effect h s u) : u.irqEn = s.irqEn ∨ (u.irqEn = true ∧ h.runs .rearm) ∨
    (u.irqEn = false ∧ (h.runs .begin_ ∨ h.resets)) := by
  cases he with
  | rearm hr => exact .inr (.inl ⟨rfl, hr⟩)
  | beginFrame hr => exact .inr (.inr ⟨rfl, .inl hr⟩)
  | reset hr => exact .inr (.inr ⟨rfl, .inr hr⟩)
  | _ => exact .inl rfl

theorem Effect.dupSuspected (he : Effect h s u) : u.dupSuspected = s.dupSuspected ∨
    (u.dupSuspected = false ∧ (h.runs .rearm ∨ h.resets)) := by
  cases he with
  | rearm hr => exact .inr ⟨rfl, .inl hr⟩
  | reset hr => exact .inr ⟨rfl, .inr hr⟩
  | _ => exact .inl rfl

theorem Effect.result (he : Effect h s u) : u.result = s.result ∨ (∃ w, h.writesCmd w) ∨ h.resets := by
  cases he with
  | reserved w hc => exact .inr (.inl ⟨w, hc⟩)
  | clr hr | work _ hr | outcome _ hr | track hr | beginFrame hr | rearm hr => exact .inr (.inl ⟨_, hr⟩)
  | reset hr => exact .inr (.inr hr)
  | _ => exact .inl rfl

/-- A byte of `FX` changes only by the write of its own address, or by a reset. -/
theorem Effect.fxAt (he : Effect h s u) (b : Nat) : readFx u b = readFx s b ∨
    (∃ (a : Addr) (v : Byte), a.toNat = b ∧ inFx s a = true ∧ h.performs (.w1 a v)) ∨ h.resets := by
  rcases he.fx with hfx | ⟨a, v, ha, hp, hfx⟩ | hr
  · exact .inl (congrArg (Memory.read · b) hfx)
  · by_cases hb : b = a.toNat
    · exact .inr (.inl ⟨a, v, hb.symm, ha, hp⟩)
    · exact .inl ((congrArg (Memory.read · b) hfx).trans (Memory.read_write_other s.fx v hb))
  · exact .inr (.inr hr)

/-- A flag that an enabled event sets: what it is after event, effect and event, where it changed. -/
theorem eventFlag_changed {event enabled enabled' clears : Prop} {f f₀ f₁ f₂ : Bool}
    (hpre : f₀ = f ∨ (f₀ = true ∧ event ∧ enabled)) (heffect : f₁ = f₀ ∨ (f₁ = false ∧ clears))
    (hpost : f₂ = f₁ ∨ (f₂ = true ∧ event ∧ enabled')) (hne : f₂ ≠ f) :
    (f₂ = true ∧ event) ∨ (f₂ = false ∧ clears) := by
  rcases hpost with rfl | ⟨hset, hevent, -⟩
  · rcases heffect with rfl | hclear
    · obtain ⟨hset, hevent, -⟩ := hpre.resolve_left hne
      exact .inl ⟨hset, hevent⟩
    · exact .inr hclear
  · exact .inl ⟨hset, hevent⟩

/-! ### Reset -/

/-- R36 describes power-up, in every component. -/
theorem powerUp_isResetState (p : Params) : IsResetState p (State.powerUp p) where
  ib := rfl
  wb := rfl
  filtLen := rfl
  filtOff := rfl
  fx _ := rfl
  met := rfl
  invalid hp := (powerUp_prev_invalid p hp).symm
  valid m hp := (powerUp_prev_valid p m hp).symm
  frameReady := rfl
  irqEn := rfl
  dupSuspected := rfl
  result := rfl

/-- What a reset leaves differs from power-up in the environment's fields only. -/
theorem resetBlock_isResetState (s : State) : IsResetState s.params (resetBlock s) :=
  { powerUp_isResetState s.params with }

end Sys2Proof.Machine

namespace Sys2Proof

open Sys2Proof.Machine

/-- Settles O1: each of the two inputs that reset leaves `resetBlock`, and construction `State.powerUp`. -/
theorem resetLeavesTheResetState : Obligations.ResetLeavesTheResetState := by
  refine ⟨fun s h rest hs hr => ?_, fun p t hp => ?_⟩
  · rcases hr with rfl | ⟨tr, rfl⟩
    · exact ⟨_, step_reset s hs, resetBlock_isResetState (setInputs rest s), rfl, rfl⟩
    · exact ⟨_, step_resetWith s hs,
        { resetBlock_isResetState (countDraw (setInputs rest s)) with }, rfl, rfl⟩
  · by_cases hwf : p.wf = true
    · rw [construct_of_wf hwf] at hp
      cases hp
      exact ⟨powerUp_isResetState p, rfl⟩
    · rw [construct_of_not_wf hwf] at hp
      cases hp

/-- Settles O40: at power-up the buffers and `FX` are empty, and `PREV_VALID = 0` means an invalid
`TRK_RESET`; REF is legal. -/
theorem resetSatisfiesTheInvariant : Obligations.ResetSatisfiesTheInvariant :=
  ⟨fun _ => powerUp_inv, powerUp_inv (by decide +kernel)⟩

/-- Settles O41: neither an effect nor an event writes the parameters. -/
theorem parametersNeverChange : Obligations.ParametersNeverChange := fun s _ ht =>
  step_keeps (P := fun u => u.params = s.params) (fun _ _ _ he => he.params.trans)
    (fun _ _ _ hf => hf.params.trans) ht rfl

/-- Settles O39: every effect of an input keeps the invariant, which sees neither events nor the
environment. -/
theorem stepKeepsTheInvariant : Obligations.StepKeepsTheInvariant := fun _ _ hs ht =>
  step_keeps (fun _ _ _ he => he.inv) (fun _ _ _ hf => hf.inv) ht hs

/-- Settles O42: each clause is what the effect of the input does to that component; an event around it
touches the two flags it sets and nothing else. -/
theorem stepsWriteByTheMatrix : Obligations.StepsWriteByTheMatrix := by
  intro s t h rest hs ht
  obtain ⟨s₀, u, ⟨_, _, _, _, _, hready, hdup⟩, he, ⟨_, _, _, _, _, hready', hdup'⟩⟩ := step_effect hs ht
  refine ⟨he.ib.resolve_left, he.wb.resolve_left, fun hne => ?_, fun hne => ?_, fun b hne => ?_,
    he.rssi.resolve_left, he.snr.resolve_left, he.ferr.resolve_left, fun hne => ?_,
    eventFlag_changed hready he.frameReady hready', he.irqEn.resolve_left,
    eventFlag_changed hdup he.dupSuspected hdup', he.result.resolve_left⟩
  · exact he.filter.resolve_left fun ⟨hlen, hoff⟩ => hne.elim (· hlen) (· hoff)
  · rcases he.fx.resolve_left hne with ⟨a, v, ha, hp, -⟩ | hr
    · obtain ⟨hlow, hhigh⟩ := (inFx_iff _ a).mp ha
      exact .inl ⟨a, v, hlow, hhigh, hp⟩
    · exact .inr hr
  · rcases (he.fxAt b).resolve_left hne with ⟨a, v, rfl, ha, hp⟩ | hr
    · obtain ⟨hlow, hhigh⟩ := (inFx_iff _ a).mp ha
      exact .inl ⟨a, v, rfl, hlow, hhigh, hp⟩
    · exact .inr hr
  · exact he.prev.resolve_left fun ⟨hprev, hvalid⟩ => hne.elim (· hprev) (· hvalid)

end Sys2Proof
end

section
/-! The host port: which transactions are refused, that every one is answered once and by a response of
its kind, and that a transaction does not see the inputs still pending. -/

namespace Sys2Proof.Machine

variable {i : Instr} {t : Transaction} {s u : State}

/-! ### What an access on R55's list answers, and what every other does -/

theorem inWb_iff (s : State) (a : Addr) :
    inWb s a = true ↔ wbBase ≤ a.toNat ∧ a.toNat < wbBase + s.wb.length := by
  simp only [inWb, Bool.and_eq_true, decide_eq_true_eq]

theorem readRegister_illegal {a : Addr} (h : (Transaction.r4 a).illegal s) : readRegister s a = .slverr := by
  simp only [Transaction.illegal, List.mem_cons, List.not_mem_nil, or_false, not_or] at h
  simp only [readRegister, h, if_false]

theorem readRegister_legal {a : Addr} (h : ¬ (Transaction.r4 a).illegal s) :
    ∃ v, readRegister s a = .okayWord v := by
  have hlist := not_not.mp h
  simp only [List.mem_cons, List.not_mem_nil, or_false] at hlist
  rcases hlist with rfl | rfl | rfl | rfl | rfl | rfl | rfl | rfl | rfl | rfl
  all_goals exact ⟨_, rfl⟩

theorem readByte_illegal {a : Addr} (h : (Transaction.r1 a).illegal s) : readByte s a = .slverr := by
  obtain ⟨hfx, hwb⟩ := h
  exact (if_neg (mt (inFx_iff s a).mp hfx)).trans (if_neg (mt (inWb_iff s a).mp hwb))

theorem readByte_legal {a : Addr} (h : ¬ (Transaction.r1 a).illegal s) :
    ∃ v, readByte s a = .okayByte v := by
  unfold readByte
  split_ifs with hfx hwb
  · exact ⟨_, rfl⟩
  · exact ⟨_, rfl⟩
  · exact absurd ⟨mt (inFx_iff s a).mpr hfx, mt (inWb_iff s a).mpr hwb⟩ h

theorem writeByte_illegal {a : Addr} {v : Byte} (h : (Transaction.w1 a v).illegal s) :
    writeByte a v s = respond .slverr s := if_neg (mt (inFx_iff s a).mp h)

theorem writeByte_legal {a : Addr} {v : Byte} (h : ¬ (Transaction.w1 a v).illegal s) :
    writeByte a v s = respond .okay (writeFx a.toNat v s) :=
  if_pos ((inFx_iff s a).mpr (not_not.mp h))

theorem writeRegister_illegal {a : Addr} {w : Word} (h : (Transaction.w4 a w).illegal s) :
    writeRegister a w s = respond .slverr s := by
  rcases h with hlist | ⟨rfl, hlen⟩ | ⟨rfl, hfull⟩
  · simp only [List.mem_cons, List.not_mem_nil, or_false, not_or] at hlist
    simp only [writeRegister, hlist, if_false, refuseAccess_eq]
  · exact writeFiltCfg_refused w s hlen
  · exact pushByte_full w s hfull

/-- `CMD` is on R55's list for no word. -/
theorem not_illegal_cmd (w : Word) (s : State) : ¬ (Transaction.w4 addrCmd w).illegal s := by
  rintro (hlist | ⟨ha, -⟩ | ⟨ha, -⟩)
  · exact hlist (.head _)
  · exact absurd ha (by decide)
  · exact absurd ha (by decide)

theorem writeRegister_legal {a : Addr} {w : Word} (ha : a ≠ addrCmd)
    (h : ¬ (Transaction.w4 a w).illegal s) :
    (writeRegister a w s).responses = .okay :: s.responses ∧ (writeRegister a w s).inputs = s.inputs := by
  obtain ⟨hlist, h⟩ := not_or.mp h
  obtain ⟨hlen, hroom⟩ := not_or.mp h
  simp only [not_not, List.mem_cons, List.not_mem_nil, or_false, ha, false_or] at hlist
  rcases hlist with rfl | rfl | rfl | rfl | rfl
  · have he : writeRegister addrIbPush w s = _ := pushByte_room w s fun hfull => hroom ⟨rfl, hfull⟩
    rw [he]; exact ⟨rfl, rfl⟩
  · have he : writeRegister addrFiltCfg w s = _ :=
      writeFiltCfg_accepted w s (Nat.le_of_not_lt fun hlong => hlen ⟨rfl, hlong⟩)
    rw [he]; exact ⟨rfl, rfl⟩
  all_goals exact ⟨rfl, rfl⟩

/-! ### A command touches neither responses nor pending inputs -/

theorem Effect.responses {h : Input} (he : Effect h s u) : u.responses = s.responses := by cases he <;> rfl

theorem Effect.inputs {h : Input} (he : Effect h s u) : u.inputs = s.inputs := by cases he <;> rfl

theorem exec_completes (i : Instr) (s : State) : ∃ u, exec i s = .next u := by
  cases i with
  | trk =>
    cases hdup : s.prevValid && metricsEqual s.met s.prev with
    | true => exact ⟨_, exec_trk_duplicate hdup⟩
    | false => exact ⟨_, exec_trk_new hdup⟩
  | _ => exact ⟨_, rfl⟩

theorem exec_environment (he : exec i s = .next u) : u.responses = s.responses ∧ u.inputs = s.inputs :=
  have heff : Effect (.transaction (.w4 addrCmd (encodeWord i))) s u := effect_of_exec (.inl rfl) he
  ⟨heff.responses, heff.inputs⟩

/-- A write to `CMD` is answered `OKAY` whatever the command's outcome (R101). -/
theorem writeCmd_completes (w : Word) (s : State) :
    ∃ u, writeCmd exec w s = .next u ∧ u.responses = .okay :: s.responses ∧ u.inputs = s.inputs := by
  cases hw : decodeWord w with
  | command i =>
    obtain ⟨u, hu⟩ := exec_completes i (respond .okay s)
    exact ⟨u, (writeCmd_command exec s hw).trans hu, exec_environment hu⟩
  | reserved why => exact ⟨_, writeCmd_reserved exec s hw, rfl, rfl⟩

/-! ### Every transaction is answered once -/

/-- R55: a listed access changes nothing and is answered `SLVERR`. -/
theorem transact_illegal (h : t.illegal s) : transact exec t s = .next (respond .slverr s) := by
  cases t with
  | r4 a => exact congrArg (fun r => Host.Outcome.next (respond r s)) (readRegister_illegal h)
  | r1 a => exact congrArg (fun r => Host.Outcome.next (respond r s)) (readByte_illegal h)
  | w1 a v => exact congrArg Host.Outcome.next (writeByte_illegal h)
  | w4 a w =>
    have ha : a ≠ addrCmd := by rintro rfl; exact not_illegal_cmd w s h
    exact (if_neg ha).trans (congrArg Host.Outcome.next (writeRegister_illegal h))

/-- R55: the list is complete, every other access is answered by the `OKAY` of its kind. -/
theorem transact_legal (h : ¬ t.illegal s) :
    ∃ u v, transact exec t s = .next u ∧ u.responses = okayResponse t v :: s.responses ∧
      u.inputs = s.inputs := by
  cases t with
  | r4 a =>
    obtain ⟨v, hv⟩ := readRegister_legal h
    exact ⟨_, v, rfl, congrArg (· :: s.responses) hv, rfl⟩
  | r1 a =>
    obtain ⟨v, hv⟩ := readByte_legal h
    have hbyte : (v.setWidth 32).setWidth 8 = v := BitVec.setWidth_setWidth_of_le v (by decide)
    refine ⟨_, v.setWidth 32, rfl, ?_, rfl⟩
    rw [okayResponse_r1, hbyte, ← hv, respond_responses]
  | w1 a v => exact ⟨_, 0, congrArg Host.Outcome.next (writeByte_legal h), rfl, rfl⟩
  | w4 a w =>
    by_cases ha : a = addrCmd
    · subst ha
      obtain ⟨u, hu, henv⟩ := writeCmd_completes w s
      exact ⟨u, 0, hu, henv⟩
    · exact ⟨_, 0, if_neg ha, writeRegister_legal ha h⟩

theorem okayResponse_ne_slverr (t : Transaction) (v : Word) : okayResponse t v ≠ .slverr := by
  cases t <;> nofun

/-- R52: the response is of the transaction's kind, `SLVERR` or the `OKAY` of a read or of a write. -/
def AnswersInKind (t : Transaction) (r : Response) : Prop :=
  match t with
  | .r4 _ => r = .slverr ∨ ∃ v, r = .okayWord v
  | .r1 _ => r = .slverr ∨ ∃ v, r = .okayByte v
  | .w4 _ _ => r = .slverr ∨ r = .okay
  | .w1 _ _ => r = .slverr ∨ r = .okay

theorem answersInKind_slverr (t : Transaction) : AnswersInKind t .slverr := by
  cases t <;> exact .inl rfl

theorem answersInKind_okayResponse (t : Transaction) (v : Word) : AnswersInKind t (okayResponse t v) := by
  cases t with
  | r4 a | r1 a => exact .inr ⟨_, rfl⟩
  | w4 a w | w1 a b => exact .inr rfl

theorem answersInKind_overriddenResponse (n : Nat) (t : Transaction) :
    AnswersInKind t (overriddenResponse n t) := by
  rcases overriddenResponse_cases n t with ⟨v, hr⟩ | hr
  · exact hr ▸ answersInKind_okayResponse t v
  · exact hr ▸ answersInKind_slverr t

/-- `u` is what a transaction `t` can leave of `s`, with the response `r`: exactly one response more, of
`t`'s kind, and with `SLVERR` nothing else. -/
structure Answered (t : Transaction) (s u : State) (r : Response) : Prop where
  responses : u.responses = r :: s.responses
  inputs : u.inputs = s.inputs
  slverr : r = .slverr → u = respond .slverr s
  kind : AnswersInKind t r

theorem answered_slverr (t : Transaction) (s : State) : Answered t s (respond .slverr s) .slverr :=
  ⟨rfl, rfl, fun _ => rfl, answersInKind_slverr t⟩

theorem answered_okayResponse {v : Word} (hr : u.responses = okayResponse t v :: s.responses)
    (hi : u.inputs = s.inputs) : Answered t s u (okayResponse t v) :=
  ⟨hr, hi, fun he => absurd he (okayResponse_ne_slverr t v), answersInKind_okayResponse t v⟩

/-- R52: every transaction is answered. -/
theorem transact_answered (t : Transaction) (s : State) :
    ∃ u r, transact exec t s = .next u ∧ Answered t s u r := by
  by_cases h : t.illegal s
  · exact ⟨_, _, transact_illegal h, answered_slverr t s⟩
  · obtain ⟨u, v, hu, hr, hi⟩ := transact_legal h
    exact ⟨u, _, hu, answered_okayResponse hr hi⟩

/-- An event after the transaction answers what one before it answers. -/
theorem Answered.frameIrq {r : Response} (ha : Answered t s u r) :
    Answered t (frameIrq s) (frameIrq u) r where
  responses := by rw [frameIrq_responses, frameIrq_responses, ha.responses]
  inputs := by rw [frameIrq_inputs, frameIrq_inputs, ha.inputs]
  slverr hr := by rw [ha.slverr hr, frameIrq_respond]
  kind := ha.kind

/-- R60: in either order the transaction is answered, and one that is refused leaves what the event
leaves. -/
theorem coincide_answered (t : Transaction) (s : State) :
    ∃ u r, coincide exec t s = .next u ∧ Answered t (frameIrq (countDraw s)) u r := by
  rcases coincide_cases exec t s with hc | hc
  · rw [hc]
    exact transact_answered t _
  · obtain ⟨u, r, hu, ha⟩ := transact_answered t (countDraw s)
    exact ⟨frameIrq u, r, by rw [hc, hu]; rfl, ha.frameIrq⟩

/-! ### A transaction does not see the pending inputs -/

theorem finishDecode_setInputs (d : Except ResultCode (List Byte)) (rest : List Input) (s : State) :
    finishDecode d (setInputs rest s) = setInputs rest (finishDecode d s) := by
  cases d <;> rfl

theorem exec_setInputs (he : exec i s = .next u) (rest : List Input) :
    exec i (setInputs rest s) = .next (setInputs rest u) := by
  cases i with
  | trk =>
    cases hdup : s.prevValid && metricsEqual s.met s.prev with
    | true =>
      cases he.symm.trans (exec_trk_duplicate hdup)
      exact exec_trk_duplicate (s := setInputs rest s) hdup
    | false =>
      cases he.symm.trans (exec_trk_new hdup)
      exact exec_trk_new (s := setInputs rest s) hdup
  | rsdec | decode =>
    cases he
    exact congrArg Host.Outcome.next (finishDecode_setInputs _ rest s)
  | _ => cases he; rfl

theorem writeRegister_setInputs (a : Addr) (w : Word) (rest : List Input) (s : State) :
    writeRegister a w (setInputs rest s) = setInputs rest (writeRegister a w s) := by
  simp only [writeRegister, pushByte, writeFiltCfg, apply_ite (setInputs rest)]
  rfl

theorem writeByte_setInputs (a : Addr) (v : Byte) (rest : List Input) (s : State) :
    writeByte a v (setInputs rest s) = setInputs rest (writeByte a v s) := by
  simp only [writeByte, apply_ite (setInputs rest)]
  rfl

theorem transact_setInputs (ht : transact exec t s = .next u) (rest : List Input) :
    transact exec t (setInputs rest s) = .next (setInputs rest u) := by
  cases t with
  | r4 a | r1 a => cases ht; rfl
  | w1 a v =>
    cases ht
    exact congrArg Host.Outcome.next (writeByte_setInputs a v rest s)
  | w4 a w =>
    by_cases ha : a = addrCmd
    · subst ha
      cases hw : decodeWord w with
      | command i =>
        have he : exec i (respond .okay s) = .next u := (writeCmd_command exec s hw).symm.trans ht
        exact (writeCmd_command exec _ hw).trans (exec_setInputs he rest)
      | reserved why =>
        cases (writeCmd_reserved exec s hw).symm.trans ht
        exact writeCmd_reserved exec _ hw
    · cases (if_neg ha).symm.trans ht
      exact (if_neg ha).trans (congrArg Host.Outcome.next (writeRegister_setInputs a w rest s))

/-! ### Two steps -/

theorem core_run_two (h : step s = .next u) : core.run 2 s = step u := by
  have hs : core.step s = .next u := h
  have hu : core.step u = step u := rfl
  simp only [Host.Core.run, hs, hu]
  cases step u <;> rfl

/-- The event, then the transaction. -/
theorem run_event_transaction (t : Transaction) (rest : List Input) (s : State) :
    core.run 2 (setInputs (.frameIrq :: .transaction t :: rest) s) =
      transact exec t (frameIrq (setInputs rest s)) := by
  rw [core_run_two (step_frameIrq _ rfl), step_transaction _ (frameIrq_inputs _), ← frameIrq_setInputs]
  rfl

/-- The transaction, then the event. -/
theorem run_transaction_event (t : Transaction) (rest : List Input) (s : State) :
    core.run 2 (setInputs (.transaction t :: .frameIrq :: rest) s) =
      thenIrq (transact exec t (setInputs rest s)) := by
  obtain ⟨u, r, hu, ha⟩ := transact_answered t (setInputs (.frameIrq :: rest) s)
  have hu' : transact exec t (setInputs rest s) = .next (setInputs rest u) := transact_setInputs hu rest
  have hstep : step (setInputs (.transaction t :: .frameIrq :: rest) s) = .next u :=
    (step_transaction _ rfl).trans hu
  rw [core_run_two hstep, step_frameIrq u ha.inputs, hu']
  rfl

end Sys2Proof.Machine

namespace Sys2Proof

open Sys2Proof.Machine

/-- Settles O22: the step draws one of the two orders, and each is two steps on the inputs apart. -/
theorem coincidingEventTakesEitherOrder : Obligations.CoincidingEventTakesEitherOrder := by
  intro s t rest hs
  rw [step_irqWith s hs]
  refine (coincide_cases exec t (setInputs rest s)).imp (fun hc => ?_) (fun hc => ?_)
  · exact hc.trans (run_event_transaction t rest (countDraw s)).symm
  · exact hc.trans (run_transaction_event t rest (countDraw s)).symm

/-- Settles O34: the step is the transaction at the state with the input consumed. -/
theorem everyTransactionIsAnswered : Obligations.EveryTransactionIsAnswered := by
  intro s t rest hs
  obtain ⟨u, r, hu, ha⟩ := transact_answered t (setInputs rest s)
  exact ⟨u, r, (step_transaction s hs).trans hu, ha.responses, ha.inputs, ha.slverr, ha.kind⟩

/-- Settles O35: R55's list decides between refusal and the `OKAY` of the transaction's kind. -/
theorem refusedAccessesAreExactlyTheListed : Obligations.RefusedAccessesAreExactlyTheListed := by
  intro s t rest hs
  rw [step_transaction s hs]
  refine ⟨fun h => transact_illegal (s := setInputs rest s) h, fun h => ?_⟩
  obtain ⟨u, v, hu, hr, -⟩ := transact_legal (s := setInputs rest s) h
  exact ⟨u, _, hu, hr, okayResponse_ne_slverr t v⟩

/-- Settles O60: with an event the transaction is answered in either order; with a reset it is overridden,
and the response is drawn. -/
theorem coincidingTransactionIsAnswered : Obligations.CoincidingTransactionIsAnswered := by
  rintro s t rest (hs | hs)
  · obtain ⟨u, r, hu, ha⟩ := coincide_answered t (setInputs rest s)
    refine ⟨u, r, (step_irqWith s hs).trans hu, ?_, ?_, fun _ hr => ?_, fun hs' => ?_, ha.kind⟩
    · rw [ha.responses, frameIrq_responses]; rfl
    · rw [ha.inputs, frameIrq_inputs]; rfl
    · rw [ha.slverr hr, ← frameIrq_respond]; rfl
    · cases hs.symm.trans hs'
  · refine ⟨_, _, step_resetWith s hs, rfl, rfl, fun hs' => ?_, fun _ => ?_,
      answersInKind_overriddenResponse s.draws t⟩
    · cases hs.symm.trans hs'
    · exact { resetBlock_isResetState (countDraw (setInputs rest s)) with }

/-- Settles O36: a read, of either width and at any address, is answered and does nothing else. -/
theorem readsChangeNothing : Obligations.ReadsChangeNothing := fun s _ _ =>
  ⟨fun hs => ⟨_, step_transaction s hs⟩, fun hs => ⟨_, step_transaction s hs⟩⟩

end Sys2Proof
end

section
/-! The command words: decoding inverts encoding, and a word that is no command's is reserved. -/

namespace Sys2Proof

open Sys2Proof.Machine

/-! ### Decoding and encoding -/

theorem encoding_statement (i : Instr) : Laws.Encoding.Statement i := by
  cases i with
  | clr => exact Laws.Encoding.clr
  | copy => exact Laws.Encoding.copy
  | deint => exact Laws.Encoding.deint
  | strip => exact Laws.Encoding.strip
  | rsdec => exact Laws.Encoding.rsdec
  | decode => exact Laws.Encoding.decode
  | filt => exact Laws.Encoding.filt
  | trk => exact Laws.Encoding.trk
  | begin_ => exact Laws.Encoding.begin_
  | rearm => exact Laws.Encoding.rearm

theorem Instr.wf_eq_true (i : Instr) : i.wf = true := by cases i <;> rfl

@[simp] theorem decodeWord_encodeWord (i : Instr) : decodeWord (encodeWord i) = .command i :=
  (encoding_statement i (Instr.wf_eq_true i)).2

/-- R81: the `match` value of a command is the only word that decodes to it. -/
theorem decodeWord_eq_command_iff {w : Word} {i : Instr} : decodeWord w = .command i ↔ w = encodeWord i :=
  ⟨eq_encodeWord_of_decodeWord, fun hw => hw ▸ decodeWord_encodeWord i⟩

/-- Settles O5: the iff is the decoder's two directions, the ten words are the encoder evaluated. -/
theorem commandWordsDecodeExactly : Obligations.CommandWordsDecodeExactly :=
  ⟨fun _ _ => decodeWord_eq_command_iff, rfl, rfl, rfl, rfl, rfl, rfl, rfl, rfl, rfl, rfl⟩

/-- Settles O6: four words are encodings; `decodeWord` evaluates the three reserved ones. -/
theorem specWordsDecode : Obligations.SpecWordsDecode :=
  ⟨decodeWord_encodeWord .clr, decodeWord_encodeWord .decode, decodeWord_encodeWord .filt,
    decodeWord_encodeWord .rearm, by decide, by decide, by decide⟩

/-! ### Reserved words -/

theorem encodeWord_toNat_bounds (i : Instr) : 1 ≤ (encodeWord i).toNat ∧ (encodeWord i).toNat ≤ 0x0A := by
  cases i <;> decide

/-- R82: 0 and every word above 0x0A are reserved. -/
theorem decodeWord_reserved {w : Word} (hw : w.toNat = 0 ∨ 0x0A < w.toNat) :
    ∃ why, decodeWord w = .reserved why := by
  cases hd : decodeWord w with
  | reserved why => exact ⟨why, rfl⟩
  | command i =>
    obtain ⟨hlow, hhigh⟩ := encodeWord_toNat_bounds i
    rw [eq_encodeWord_of_decodeWord hd] at hw
    omega

/-- Settles O4: such a word decodes to no command, and `writeCmd` then reports `E_BADCMD` alone. -/
theorem reservedWordReportsBadCommand : Obligations.ReservedWordReportsBadCommand := by
  intro s w rest hs hw
  obtain ⟨why, hd⟩ := decodeWord_reserved hw
  exact (step_transaction s hs).trans (writeCmd_reserved exec (setInputs rest s) hd)

end Sys2Proof
end

section
/-! The frame of the commands (R83): which components of the state each of them can write. -/

namespace Sys2Proof.Machine

variable {i : Instr} {s t : State}

/-- `t` is what the command `i` can leave of `s` (R38, R83). Each field holds by `rfl` unless `i` writes
the component; a proof names only the components its command writes. -/
structure CommandFrame (i : Instr) (s t : State) : Prop where
  ib : i ≠ .clr → t.ib = s.ib := by exact fun _ => rfl
  wb : i ∉ [.copy, .deint, .strip, .rsdec, .decode] → t.wb = s.wb := by exact fun _ => rfl
  filtLen : t.filtLen = s.filtLen := by rfl
  filtOff : t.filtOff = s.filtOff := by rfl
  fx : t.fx = s.fx := by rfl
  met : t.met = s.met := by rfl
  prev : i ≠ .trk → t.prev = s.prev ∧ t.prevValid = s.prevValid := by exact fun _ => ⟨rfl, rfl⟩
  frameReady : i ≠ .begin_ → t.frameReady = s.frameReady := by exact fun _ => rfl
  irqEn : i ∉ [.begin_, .rearm] → t.irqEn = s.irqEn := by exact fun _ => rfl
  dupSuspected : i ≠ .rearm → t.dupSuspected = s.dupSuspected := by exact fun _ => rfl
  params : t.params = s.params := by rfl
  inputs : t.inputs = s.inputs := by rfl
  responses : t.responses = s.responses := by rfl
  draws : t.draws = s.draws := by rfl

/-- Writing `WB` and `RESULT` is within the frame of the five buffer commands that write `WB`. -/
theorem commandFrame_setWork (hi : i ∈ [.copy, .deint, .strip, .rsdec, .decode]) (c : ResultCode)
    (d : List Byte) : CommandFrame i s (report c (setWork d s)) where
  wb := absurd hi

/-- RSDEC and DECODE write `WB` and `RESULT` however they end. -/
theorem commandFrame_finishDecode (hi : i ∈ [.copy, .deint, .strip, .rsdec, .decode])
    (r : Except ResultCode (List Byte)) : CommandFrame i s (finishDecode r s) := by
  obtain ⟨c, d, hfinish⟩ := finishDecode_cases r s
  exact hfinish ▸ commandFrame_setWork hi c d

theorem exec_frame (he : exec i s = .next t) : CommandFrame i s t := by
  cases i with
  | clr => cases he; exact { ib := absurd rfl }
  | copy | deint | strip => cases he; exact commandFrame_setWork (by decide) _ _
  | rsdec | decode => cases he; exact commandFrame_finishDecode (by decide) _
  | filt => cases he; exact {}
  | trk =>
    cases hdup : s.prevValid && metricsEqual s.met s.prev with
    | true => cases he.symm.trans (exec_trk_duplicate hdup); exact {}
    | false => cases he.symm.trans (exec_trk_new hdup); exact { prev := absurd rfl }
  | begin_ => cases he; exact { frameReady := absurd rfl, irqEn := absurd (by decide) }
  | rearm => cases he; exact { irqEn := absurd (by decide), dupSuspected := absurd rfl }

theorem readByte_of_inFx {a : Addr} (ha : inFx s a = true) :
    readByte s a = .okayByte (readFx s a.toNat) := if_pos ha

/-- A byte read in the `FX` window does not depend on `WB`. -/
theorem readByte_congr_of_inFx (hp : t.params = s.params) (hf : t.fx = s.fx) {a : Addr}
    (ha : inFx s a = true) : readByte t a = readByte s a := by
  have hta : inFx t a = true := (inFx_iff t a).mpr (hp ▸ (inFx_iff s a).mp ha)
  rw [readByte_of_inFx hta, readByte_of_inFx ha, readFx, readFx, hf]

end Sys2Proof.Machine

namespace Sys2Proof

open Sys2Proof.Machine

/-- Settles O19: the components are `exec_frame`'s, and a byte read sees only parameters, `FX` and, outside
the `FX` window, `WB`. -/
theorem commandsWriteOnlyTheirOperands : Obligations.CommandsWriteOnlyTheirOperands := by
  intro i s t he
  have hf := exec_frame he
  exact ⟨hf.ib, fun hi => ⟨hf.wb hi, readByte_congr hf.params hf.fx (hf.wb hi)⟩,
    fun _ ha => readByte_congr_of_inFx hf.params hf.fx ha, hf.filtLen, hf.filtOff, hf.fx, hf.met, hf.prev,
    hf.frameReady, hf.irqEn, hf.dupSuspected, hf.params, hf.inputs, hf.responses, hf.draws⟩

end Sys2Proof
end

section
/-! The host port by register: what a step on a transaction leaves, the bits of the register views, and the
state that each command's rule defines. -/

namespace Sys2Proof.Machine

variable {s u : State} {rest : List Input}

/-! ### Steps on a transaction -/

/-- R55: an access on the list is refused. -/
theorem step_illegal {t : Transaction} (hs : s.inputs = .transaction t :: rest) (h : t.illegal s) :
    step s = .next (respond .slverr (setInputs rest s)) :=
  (step_transaction s hs).trans (transact_illegal (s := setInputs rest s) h)

theorem step_r4 {a : Addr} {r : Response} (hs : s.inputs = .transaction (.r4 a) :: rest)
    (hr : readRegister s a = r) : step s = .next (respond r (setInputs rest s)) :=
  hr ▸ step_transaction s hs

theorem step_r1 {a : Addr} {r : Response} (hs : s.inputs = .transaction (.r1 a) :: rest)
    (hr : readByte s a = r) : step s = .next (respond r (setInputs rest s)) :=
  hr ▸ step_transaction s hs

theorem step_w4 {a : Addr} {w : Word} (hs : s.inputs = .transaction (.w4 a w) :: rest) (ha : a ≠ addrCmd)
    (hu : writeRegister a w (setInputs rest s) = u) : step s = .next u :=
  hu ▸ (step_transaction s hs).trans (if_neg ha)

theorem step_w1 {a : Addr} {v : Byte} (hs : s.inputs = .transaction (.w1 a v) :: rest)
    (ha : inFx s a = true) : step s = .next (respond .okay (writeFx a.toNat v (setInputs rest s))) :=
  (step_transaction s hs).trans (congrArg Host.Outcome.next (if_pos ha))

theorem step_cmd {w : Word} (hs : s.inputs = .transaction (.w4 addrCmd w) :: rest) :
    step s = writeCmd exec w (setInputs rest s) := step_transaction s hs

/-! ### The bits of the register views -/

/-- R105: twelve bits hold every length that R37 allows. -/
theorem toNat_lengthWord {bytes : List Byte} (h : bytes.length < 2 ^ 12) :
    (lengthWord bytes).toNat = bytes.length := by
  rw [lengthWord, BitVec.toNat_setWidth_of_le (by decide), BitVec.toNat_ofNat, Nat.mod_eq_of_lt h]

theorem bufMax_lt_of_inv (hs : s.Inv) : s.params.bufMax < 2 ^ 12 := by
  have hlegal := (Params.wf_iff s.params).mp hs.params
  omega

/-- R25, R106: `(OFF << 8) | LEN`. -/
theorem filtCfgWord_eq (s : State) :
    filtCfgWord s = (s.filtOff.setWidth 32 <<< 8) ||| s.filtLen.setWidth 32 := by
  rw [← BitVec.setWidth_eq (filtCfgWord s), filtCfgWord,
    BitVec.setWidth_append_append_eq_shiftLeft_setWidth_or]
  simp

/-- R31, R111: the fields of `STATUS` in their places. -/
theorem statusWord_eq (s : State) :
    statusWord s = s.result.bits.setWidth 32 ||| ((BitVec.ofBool s.frameReady).setWidth 32 <<< 4) |||
        ((BitVec.ofBool s.irqEn).setWidth 32 <<< 5) ||| ((BitVec.ofBool s.dupSuspected).setWidth 32 <<< 6) |||
        ((BitVec.ofBool s.prevValid).setWidth 32 <<< 7) := by
  rw [← BitVec.setWidth_eq (statusWord s), statusWord]
  simp only [BitVec.setWidth_append_eq_shiftLeft_setWidth_or, BitVec.shiftLeft_or_distrib,
    ← BitVec.shiftLeft_add, BitVec.ofNat_eq_ofNat, BitVec.setWidth_zero, BitVec.zero_shiftLeft,
    BitVec.zero_or]
  ac_rfl

/-- R31: `RESULT` stands in bits [3:0]. -/
theorem extractLsb'_statusWord (s : State) : (statusWord s).extractLsb' 0 4 = s.result.bits :=
  (BitVec.setWidth_eq_extractLsb' (by decide)).symm.trans BitVec.setWidth_append_eq_right

/-! ### The `WB` window -/

theorem readByte_of_getElem? {a : Addr} {b : Byte} (hfx : ¬ inFx s a = true) (ha : wbBase ≤ a.toNat)
    (hb : s.wb[a.toNat - wbBase]? = some b) : readByte s a = .okayByte b := by
  obtain ⟨hlt, hb⟩ := List.getElem?_eq_some_iff.mp hb
  have hwb : inWb s a = true := (inWb_iff s a).mpr ⟨ha, by omega⟩
  rw [readByte, if_neg hfx, if_pos hwb, List.getD_eq_getElem _ _ hlt, hb]

/-! ### What each command leaves -/

/-- R103: a completed `CMD` write of a command's word leaves what the command leaves. -/
theorem writeCmd_eq_next {i : Instr} {w : Word} {v : State} (hu : writeCmd exec w s = .next u)
    (hw : w = encodeWord i) (hv : exec i (respond .okay s) = .next v) : u = v := by
  subst hw
  exact Host.Outcome.next.inj (hu.symm.trans ((writeCmd_command exec s (decodeWord_encodeWord i)).trans hv))

theorem take_length_strip (d : List Byte) : d.take (strip d).length = strip d :=
  (List.prefix_iff_eq_take.mp (strip_prefix d)).symm

/-- R136: STRIP modifies no byte that it keeps. -/
theorem exec_strip (s : State) :
    exec .strip s = .next { s with wb := s.wb.take (strip s.wb).length, result := .ok } := by
  rw [take_length_strip]; rfl

/-- R137: RSDEC ends as `rs_decode` answers on `WB`. -/
theorem exec_rsdec_ok {m : List Byte} (h : rsDecode s.params s.wb = .ok m) :
    exec .rsdec s = .next { s with wb := m, result := .ok } :=
  congrArg (fun r => Host.Outcome.next (finishDecode r s)) h

theorem exec_rsdec_error {c : ResultCode} (h : rsDecode s.params s.wb = .error c) :
    exec .rsdec s = .next { s with wb := [], result := c } :=
  congrArg (fun r => Host.Outcome.next (finishDecode r s)) h

/-- R138: DECODE ends as `rs_decode` answers on the de-interleaved and stripped frame. -/
theorem exec_decode_ok {m : List Byte}
    (h : rsDecode s.params (strip (deint s.params.rows s.params.cols s.ib)) = .ok m) :
    exec .decode s = .next { s with wb := m, result := .ok } :=
  congrArg (fun r => Host.Outcome.next (finishDecode r s)) h

theorem exec_decode_error {c : ResultCode}
    (h : rsDecode s.params (strip (deint s.params.rows s.params.cols s.ib)) = .error c) :
    exec .decode s = .next { s with wb := [], result := c } :=
  congrArg (fun r => Host.Outcome.next (finishDecode r s)) h

theorem exec_filt_pass (h : filterPass s.wb (lenOperand s) (offOperand s) (fxOperand s) = true) :
    exec .filt s = .next (report .ok s) := by
  simp only [exec, execFilt, workOperand, h, if_true]

theorem exec_filt_reject (h : filterPass s.wb (lenOperand s) (offOperand s) (fxOperand s) = false) :
    exec .filt s = .next (report .filterRejected s) := by
  simp only [exec, execFilt, workOperand, h, Bool.false_eq_true, if_false]

theorem metricsEqual_iff (a b : Metrics) : metricsEqual a b = true ↔ a = b := by
  obtain ⟨_, _, _⟩ := a
  obtain ⟨_, _, _⟩ := b
  simp only [metricsEqual, Bool.and_eq_true, beq_iff_eq, Metrics.mk.injEq, and_assoc]

/-- R181: the condition on which TRK reports a duplicate. -/
theorem trk_duplicate_iff (s : State) :
    (s.prevValid && metricsEqual s.met s.prev) = true ↔ s.prevValid = true ∧ s.met = s.prev := by
  rw [Bool.and_eq_true, metricsEqual_iff]

end Sys2Proof.Machine

namespace Sys2Proof

open Sys2Proof.Machine

/-- Settles O27: the invariant bounds both lengths below 2^12, and neither register is writable. -/
theorem lengthRegistersReadTheLengths : Obligations.LengthRegistersReadTheLengths := by
  intro s rest hinv
  have hbuf := bufMax_lt_of_inv hinv
  refine ⟨fun hs => ⟨_, toNat_lengthWord (hinv.ib.trans_lt hbuf), step_r4 hs rfl⟩,
    fun hs => ⟨_, toNat_lengthWord (hinv.wb.trans_lt hbuf), step_r4 hs rfl⟩, ?_⟩
  rintro w (hs | hs)
  · exact step_illegal hs (.inl (by decide))
  · exact step_illegal hs (.inl (by decide))

/-- Settles O29: the address is in the `FX` window, and the laws of the byte storage say what the write
leaves. -/
theorem expectedBytesReadAndWrite : Obligations.ExpectedBytesReadAndWrite := by
  intro s a rest hlow hhigh hwf
  have ha : inFx s a = true := (inFx_iff s a).mpr ⟨hlow, hhigh⟩
  refine ⟨fun hs => step_r1 hs (readByte_of_inFx ha), fun v hs => ⟨_, step_w1 hs ha, ?_⟩⟩
  exact ⟨Memory.wf_write hwf _ v, Memory.read_write_same hwf _ v,
    fun b hb => Memory.read_write_other s.fx v hb⟩

/-- Settles O33: `statusWord_eq` is the formula, and the lowest field holds the number of the code. -/
theorem statusReadsTheFields : Obligations.StatusReadsTheFields := by
  intro s rest hs
  have hcode : ∀ c, s.result = c → (statusWord s).extractLsb' 0 4 = c.bits :=
    fun c hc => hc ▸ extractLsb'_statusWord s
  exact ⟨statusWord s, statusWord_eq s, hcode _, hcode _, hcode _, hcode _, hcode _, hcode _,
    step_r4 hs rfl⟩

/-- Settles O3: the transaction is a `CMD` write, which runs the command that its word decodes to. -/
theorem stepRunsTheDecodedCommand : Obligations.StepRunsTheDecodedCommand := fun s _ _ rest hs hw =>
  (step_cmd hs).trans (writeCmd_command exec (setInputs rest s) hw)

/-- Settles O7: CLR is `clearFrame` and the report of `OK`. -/
theorem clrEmptiesTheInputBuffer : Obligations.ClrEmptiesTheInputBuffer := fun _ => rfl

/-- Settles O8: COPY is `setWork` of the frame and the report of `OK`. -/
theorem copyMovesTheFrame : Obligations.CopyMovesTheFrame := fun _ => rfl

/-- Settles O37: the write completes, and what it leaves is fixed by the command that the word encodes, or
by R82 where it encodes none. -/
theorem commandWritesAlwaysComplete : Obligations.CommandWritesAlwaysComplete := by
  rintro s a w rest hs rfl
  obtain ⟨u, hu, hresponses, hinputs⟩ := writeCmd_completes w (setInputs rest s)
  have hruns {i : Instr} {v : State} (hw : w = encodeWord i)
      (hv : exec i (respond .okay (setInputs rest s)) = .next v) : u = v := writeCmd_eq_next hu hw hv
  refine ⟨u, (step_cmd hs).trans hu, hresponses, hinputs,
    fun hw => hruns (i := .clr) hw (clrEmptiesTheInputBuffer _),
    fun hw => hruns (i := .copy) hw (copyMovesTheFrame _),
    fun hw => hruns (i := .deint) hw rfl,
    fun hw => hruns (i := .strip) hw (exec_strip _),
    fun hw => ⟨fun _ hm => hruns (i := .rsdec) hw (exec_rsdec_ok hm),
      fun _ hc => hruns (i := .rsdec) hw (exec_rsdec_error hc)⟩,
    fun hw => ⟨fun _ hm => hruns (i := .decode) hw (exec_decode_ok hm),
      fun _ hc => hruns (i := .decode) hw (exec_decode_error hc)⟩,
    fun hw => ⟨fun hpass => hruns (i := .filt) hw (exec_filt_pass hpass),
      fun hreject => hruns (i := .filt) hw (exec_filt_reject hreject)⟩,
    fun hw => ⟨fun hdup => hruns (i := .trk) hw (exec_trk_duplicate ((trk_duplicate_iff s).mpr hdup)),
      fun hnew => hruns (i := .trk) hw
        (exec_trk_new (Bool.eq_false_iff.mpr (mt (trk_duplicate_iff s).mp hnew)))⟩,
    fun hw => hruns (i := .begin_) hw rfl,
    fun hw => hruns (i := .rearm) hw rfl,
    fun hw => ?_⟩
  obtain ⟨why, hd⟩ := decodeWord_reserved hw
  exact Host.Outcome.next.inj (hu.symm.trans (writeCmd_reserved exec (setInputs rest s) hd))

/-- Settles O26: IB_PUSH is on R55's list exactly when the buffer is full. -/
theorem pushAppendsOneByte : Obligations.PushAppendsOneByte := fun s w rest hs =>
  ⟨fun hfull => step_illegal hs (.inr (.inr ⟨rfl, hfull⟩)),
    fun hroom => step_w4 hs (by decide) (pushByte_room w (setInputs rest s) hroom)⟩

/-- Settles O28: the word read is OFF above LEN, and a write is refused when its LEN exceeds FILT_MAX. -/
theorem filterConfigurationRegister : Obligations.FilterConfigurationRegister := fun s rest =>
  ⟨fun hs => ⟨filtCfgWord s, filtCfgWord_eq s, step_r4 hs rfl⟩, fun w hs =>
    ⟨fun hlong => step_illegal hs (.inr (.inl ⟨rfl, hlong⟩)),
      fun hfits => step_w4 hs (by decide) (writeFiltCfg_accepted w (setInputs rest s) hfits)⟩⟩

/-- Settles O30: by the dispatch on the address each register is read and written at its own. -/
theorem metricRegistersReadAndWrite : Obligations.MetricRegistersReadAndWrite := fun _ _ _ =>
  ⟨fun hs => step_r4 hs rfl, fun hs => step_r4 hs rfl, fun hs => step_r4 hs rfl,
    fun hs => step_w4 hs (by decide) rfl, fun hs => step_w4 hs (by decide) rfl,
    fun hs => step_w4 hs (by decide) rfl⟩

/-- Settles O31: a write of the three is on R55's list, and the invariant keeps their reset value. -/
theorem previousMetricsAreReadOnly : Obligations.PreviousMetricsAreReadOnly := by
  have hlist : ∀ a ∈ [(0x024 : Addr), 0x028, 0x02C],
      a ∉ [addrCmd, addrIbPush, addrFiltCfg, addrMetRssi, addrMetSnr, addrMetFerr] := by decide
  exact fun s rest => ⟨fun hs => step_r4 hs rfl, fun hs => step_r4 hs rfl, fun hs => step_r4 hs rfl,
    fun a w ha hs => step_illegal hs (.inl (hlist a ha)), fun hinv hvalid => (hinv.prev hvalid).1⟩

/-- Settles O32: with FILT_MAX at most 128 the `FX` window ends below `WB`'s. -/
theorem workBufferWindow : Obligations.WorkBufferWindow := by
  intro s a rest hfilt ha hs
  have hfx : ¬ (fxBase ≤ a.toNat ∧ a.toNat < fxBase + s.params.filtMax) := by rw [fxBase]; omega
  exact ⟨fun b hb => step_r1 hs (readByte_of_getElem? (mt (inFx_iff s a).mp hfx) ha hb),
    fun hend => step_illegal hs ⟨hfx, by omega⟩⟩

end Sys2Proof
end

section
/-! The de-interleaver block by block: what a full block holds, what a short last block skips, and the
inverse `inter`. -/

namespace Sys2Proof.Machine

/-! ### Splitting the input into blocks -/

theorem blockAt_append_of_le {α : Type} {size s : Nat} {x : List α} (h : s + size ≤ x.length)
    (y : List α) : blockAt size s (x ++ y) = blockAt size s x := by
  rw [blockAt, blockAt, List.drop_append_of_le_length (by omega),
    List.take_append_of_le_length (by rw [List.length_drop]; omega)]

theorem blockAt_length_add {α : Type} (size s : Nat) (x y : List α) :
    blockAt size (x.length + s) (x ++ y) = blockAt size s y := by
  simp only [blockAt, ← List.drop_drop, List.drop_left]

/-- R131: whole blocks in front are de-interleaved on their own. -/
theorem deint_append {α : Type} {rows cols k : Nat} {x : List α} (hx : x.length = k * (rows * cols))
    (y : List α) : deint rows cols (x ++ y) = deint rows cols x ++ deint rows cols y := by
  rcases Nat.eq_zero_or_pos (rows * cols) with h0 | hpos
  · simp only [deint_eq_nil h0, List.append_nil]
  have hblocks : ((x ++ y).length + rows * cols - 1) / (rows * cols) =
      k + (y.length + rows * cols - 1) / (rows * cols) := by
    rw [List.length_append, hx, ← Nat.mul_add_div hpos, Nat.mul_comm k]
    congr 1
    omega
  have hfront : (x.length + rows * cols - 1) / (rows * cols) = k := by
    rw [hx]
    exact Nat.div_eq_of_lt_le (by omega) (by rw [Nat.add_one_mul]; omega)
  simp only [deint, hblocks, hfront, List.range_add, List.flatMap_append, List.flatMap_map]
  congr 1
  · refine List.flatMap_congr fun b hb => ?_
    have hb : (b + 1) * (rows * cols) ≤ k * (rows * cols) :=
      Nat.mul_le_mul_right _ (List.mem_range.mp hb)
    rw [blockAt_append_of_le (by rwa [hx, ← Nat.succ_mul])]
  · refine List.flatMap_congr fun b _ => ?_
    rw [Nat.add_mul, ← hx, blockAt_length_add]

/-- At most one block of input is one block of output. -/
theorem deint_of_length_le {α : Type} {rows cols : Nat} {x : List α} (h : x.length ≤ rows * cols) :
    deint rows cols x = deintBlock rows cols x := by
  rcases x.length.eq_zero_or_pos with h0 | hpos
  · obtain rfl := List.length_eq_zero_iff.mp h0
    simp [deint, deintBlock, blockAt]
  · have hone : (x.length + rows * cols - 1) / (rows * cols) = 1 :=
      Nat.div_eq_of_lt_le (by omega) (by omega)
    simp [deint, hone, blockAt, List.take_of_length_le h]

theorem deint_take_append_drop {α : Type} {rows cols k : Nat} {x : List α}
    (h : k * (rows * cols) ≤ x.length) :
    deint rows cols x =
      deint rows cols (x.take (k * (rows * cols))) ++ deint rows cols (x.drop (k * (rows * cols))) := by
  rw [← deint_append (List.length_take_of_le h), List.take_append_drop]

/-- R131: a full block has no missing cell. -/
theorem deintBlock_of_length_eq {rows cols : Nat} {block : List Byte} (h : block.length = rows * cols) :
    deintBlock rows cols block =
      (List.range (rows * cols)).map (fun j => block.getD (writeStep rows cols j) 0) := by
  rw [deintBlock, ← List.filterMap_eq_map]
  refine List.filterMap_congr fun j hj => ?_
  have hcell : writeStep rows cols j < block.length := h ▸ writeStep_lt (List.mem_range.mp hj)
  simp [hcell]

/-- R131: output position `b B + j` comes from the cell that the reader visits at step `j`. -/
theorem getElem?_deint_of_full_block {rows cols b j : Nat} {x : List Byte} (hj : j < rows * cols)
    (hb : (b + 1) * (rows * cols) ≤ x.length) :
    (deint rows cols x)[b * (rows * cols) + j]? = x[b * (rows * cols) + writeStep rows cols j]? := by
  have hcell := writeStep_lt hj
  rw [Nat.add_one_mul] at hb
  have hlen : (deint rows cols (x.take (b * (rows * cols)))).length = b * (rows * cols) := by
    rw [(deint_perm (Nat.zero_lt_of_lt hj) _).length_eq, List.length_take_of_le (by omega)]
  have hrest : rows * cols ≤ (x.drop (b * (rows * cols))).length := by
    rw [List.length_drop]; omega
  have hblock := List.length_take_of_le hrest
  rw [deint_take_append_drop (k := b) (by omega), List.getElem?_append_right (by omega), hlen,
    Nat.add_sub_cancel_left, deint_take_append_drop (k := 1) (by omega), Nat.one_mul,
    deint_of_length_le hblock.le, deintBlock_of_length_eq hblock,
    List.getElem?_append_left (by simpa using hj)]
  have hx : b * (rows * cols) + writeStep rows cols j < x.length := by omega
  simp [hj, hcell, hx]

/-- R132: the reader skips the cells that the writer did not reach, and only those. -/
theorem deintBlock_drop (rows cols k : Nat) (x : List Byte) :
    deintBlock rows cols (x.drop k) =
      (List.range (rows * cols)).filterMap (fun j =>
        if writeStep rows cols j < x.length - k then x[k + writeStep rows cols j]? else none) := by
  refine List.filterMap_congr fun j _ => ?_
  split
  · exact List.getElem?_drop
  · exact List.getElem?_eq_none (by rw [List.length_drop]; omega)

/-! ### One row or one column -/

theorem writeStep_of_one {rows cols j : Nat} (h : rows = 1 ∨ cols = 1) (hj : j < rows * cols) :
    writeStep rows cols j = j := by
  rcases h with rfl | rfl
  · rw [Nat.one_mul] at hj
    simp [writeStep, Nat.mod_eq_of_lt hj, Nat.div_eq_of_lt hj]
  · simp [writeStep, Nat.mod_one]

theorem deintBlock_of_one {α : Type} {rows cols : Nat} (h : rows = 1 ∨ cols = 1) {block : List α}
    (hlen : block.length ≤ rows * cols) : deintBlock rows cols block = block := by
  have hcells := filterMap_range_getElem? (rows * cols) block
  rw [List.take_of_length_le hlen] at hcells
  refine (List.filterMap_congr fun j hj => ?_).trans hcells
  rw [writeStep_of_one h (List.mem_range.mp hj)]

/-- R135: with one row or one column the cells are read in the order in which they were written. -/
theorem deint_of_one {α : Type} {rows cols : Nat} (h : rows = 1 ∨ cols = 1) (hpos : 0 < rows * cols)
    (x : List α) : deint rows cols x = x := by
  have hblocks : deint rows cols x =
      (List.range ((x.length + rows * cols - 1) / (rows * cols))).flatMap
        (fun b => blockAt (rows * cols) (b * (rows * cols)) x) :=
    List.flatMap_congr fun b _ => deintBlock_of_one h (List.length_take_le _ _)
  rw [hblocks, flatMap_blockAt, List.take_of_length_le (le_blocks_mul_size hpos)]

/-! ### The inverse -/

/-- Which position goes where does not depend on the elements. -/
theorem deint_map {α β : Type} (f : α → β) (rows cols : Nat) (x : List α) :
    deint rows cols (x.map f) = (deint rows cols x).map f := by
  simp [deint, deintBlock, blockAt, List.map_flatMap, List.map_filterMap, ← List.map_drop, ← List.map_take]

/-- The elements of `deint`'s output, by the indices they come from. -/
theorem deint_eq_map_deintMap (p : Params) (y : List Byte) :
    deint p.rows p.cols y = (deintMap p y.length).map (fun i => y.getD i 0) := by
  have hy : (List.range y.length).map (fun i => y.getD i 0) = y :=
    List.ext_getElem (by simp) (by simp +contextual)
  rw [deintMap, ← deint_map, hy]

variable {p : Params}

theorem deintMap_perm (hB : 0 < p.rows * p.cols) (n : Nat) : (deintMap p n).Perm (List.range n) :=
  deint_perm hB _

theorem deintMap_nodup (hB : 0 < p.rows * p.cols) (n : Nat) : (deintMap p n).Nodup :=
  (deintMap_perm hB n).nodup_iff.mpr List.nodup_range

@[simp] theorem length_inter (p : Params) (x : List Byte) : (inter p x).length = x.length := by simp [inter]

/-- R133: `inter` puts `x[j]` where `deint` takes position `j` from. -/
theorem getD_inter_deintMap (hB : 0 < p.rows * p.cols) (x : List Byte) {j : Nat}
    (hj : j < (deintMap p x.length).length) :
    (inter p x).getD (deintMap p x.length)[j] 0 = x.getD j 0 := by
  have hmem : (deintMap p x.length)[j] < x.length :=
    List.mem_range.mp ((deintMap_perm hB _).subset (List.getElem_mem hj))
  rw [List.getD_eq_getElem _ _ (by rwa [length_inter])]
  simp [inter, (deintMap_nodup hB _).idxOf_getElem]

/-- R133: `deint` takes `inter x` to `x`. -/
theorem deint_inter (hB : 0 < p.rows * p.cols) (x : List Byte) : deint p.rows p.cols (inter p x) = x := by
  have hlen : (deintMap p x.length).length = x.length := by
    rw [(deintMap_perm hB _).length_eq, List.length_range]
  rw [deint_eq_map_deintMap, length_inter]
  refine List.ext_getElem (by rw [List.length_map, hlen]) fun j hj hjx => ?_
  rw [List.getElem_map, getD_inter_deintMap hB x (hlen.symm ▸ hjx), List.getD_eq_getElem _ _ hjx]

/-- R133: nothing else of the same length is taken to `x`, because `deint` reads every position. -/
theorem eq_of_deint_eq (hB : 0 < p.rows * p.cols) {y z : List Byte} (hlen : y.length = z.length)
    (h : deint p.rows p.cols y = deint p.rows p.cols z) : y = z := by
  rw [deint_eq_map_deintMap, deint_eq_map_deintMap, hlen, List.map_inj_left] at h
  refine List.ext_getElem hlen fun i hy hz => ?_
  have hi : i ∈ deintMap p z.length := (deintMap_perm hB _).symm.subset (List.mem_range.mpr hz)
  simpa [hy, hz] using h i hi

/-- R133: the reader of the transposed block undoes the writer. -/
theorem writeStep_writeStep {rows cols k : Nat} (hk : k < rows * cols) :
    writeStep rows cols (writeStep cols rows k) = k := by
  have hcol : k / rows < cols := Nat.div_lt_of_lt_mul hk
  have hcols : 0 < cols := Nat.zero_lt_of_lt hcol
  rw [writeStep, writeStep, Nat.mul_add_mod', Nat.mod_eq_of_lt hcol, Nat.mul_comm _ cols,
    Nat.mul_add_div hcols, Nat.div_eq_of_lt hcol, Nat.add_zero, Nat.div_add_mod']

end Sys2Proof.Machine

namespace Sys2Proof

open Sys2Proof.Machine

/-- Settles O43: the position is in the full block, which the reader visits by `writeStep`. -/
theorem deintOfAFullBlock : Obligations.DeintOfAFullBlock := by
  intro rows cols b j x hj hb
  rw [getElem?_deint_of_full_block hj hb, writeStep, Nat.add_assoc]

/-- Settles O44: the input is its whole blocks and a rest of less than one block. -/
theorem deintPermutesAndSkipsMissingCells : Obligations.DeintPermutesAndSkipsMissingCells := by
  intro rows cols x hrows hcols
  have hB : 0 < rows * cols := Nat.mul_pos hrows hcols
  refine ⟨deint_perm hB x, ?_⟩
  have hrest : x.length - x.length / (rows * cols) * (rows * cols) = x.length % (rows * cols) := by
    have := Nat.div_add_mod' x.length (rows * cols)
    omega
  have hshort : (x.drop (x.length / (rows * cols) * (rows * cols))).length ≤ rows * cols := by
    rw [List.length_drop, hrest]
    exact (Nat.mod_lt _ hB).le
  rw [deint_take_append_drop (Nat.div_mul_le_self _ _), deint_of_length_le hshort, deintBlock_drop, hrest]
  rfl

/-- Settles O45: `inter` inverts `deint`, and on whole blocks `deint` is the transposition of
`getElem?_deint_of_full_block`. -/
theorem interIsTheInverseOfDeint : Obligations.InterIsTheInverseOfDeint := by
  intro p x hrows hcols
  have hB : 0 < p.rows * p.cols := Nat.mul_pos hrows hcols
  refine ⟨length_inter p x, deint_inter hB x, fun y hy hdeint => ?_, fun b k _ hk hb => ?_⟩
  · exact eq_of_deint_eq hB (by rw [hy, length_inter]) (by rw [hdeint, deint_inter hB])
  · have hj : writeStep p.cols p.rows k < p.rows * p.cols :=
      Nat.mul_comm p.cols p.rows ▸ writeStep_lt (Nat.mul_comm p.rows p.cols ▸ hk)
    have hfull := getElem?_deint_of_full_block (x := inter p x) hj (by rwa [length_inter])
    rw [deint_inter hB, writeStep_writeStep hk] at hfull
    rw [← hfull, writeStep, Nat.add_assoc]

/-- Settles O9: DEINT is `setWork` of the de-interleaved frame and the report of `OK`. -/
theorem deintCompletes : Obligations.DeintCompletes := by
  refine fun s => ⟨rfl, fun hrows hcols => ?_⟩
  have hB : 0 < s.params.rows * s.params.cols := Nat.mul_pos hrows hcols
  exact ⟨(deint_perm hB s.ib).length_eq, fun hone => deint_of_one hone hB s.ib⟩

end Sys2Proof
end

section
/-! The padding strip: the scan from the end stops at the last sentinel. -/

namespace Sys2Proof.Machine

/-- The scan passes over indices that hold no sentinel. -/
theorem stripBelow_of_not_mem_drop {d : List Byte} {k n : Nat} (hkn : k ≤ n)
    (h : padSentinel ∉ d.drop k) : stripBelow d n = stripBelow d k := by
  induction n, hkn using Nat.le_induction with
  | base => rfl
  | succ n hkn ih =>
    have hne : d[n]? ≠ some padSentinel := fun hn =>
      h (List.mem_of_getElem? (i := n - k) (by rwa [List.getElem?_drop, Nat.add_sub_cancel' hkn]))
    rw [stripBelow, if_neg hne, ih]

/-- R134: the result ends just before the last sentinel. -/
theorem strip_append_sentinel (d : List Byte) {fill : List Byte} (hfill : padSentinel ∉ fill) :
    strip (d ++ padSentinel :: fill) = d := by
  have hscan : strip (d ++ padSentinel :: fill) =
      stripBelow (d ++ padSentinel :: fill) (d.length + 1) :=
    stripBelow_of_not_mem_drop (by simp) (by rwa [List.drop_length_add_append])
  rw [hscan, stripBelow, if_pos (by simp), List.take_left]

/-- R134: without a sentinel nothing is cut. -/
theorem strip_of_not_mem {d : List Byte} (h : padSentinel ∉ d) : strip d = d :=
  stripBelow_of_not_mem_drop (k := 0) (Nat.zero_le _) h

end Sys2Proof.Machine

namespace Sys2Proof

open Sys2Proof.Machine

/-- Settles O46: the scan stops at the sentinel in front of the fill, or nowhere. -/
theorem stripCutsAtTheLastSentinel : Obligations.StripCutsAtTheLastSentinel :=
  ⟨fun d _ hfill => strip_append_sentinel d hfill, fun _ hd => strip_of_not_mem hd⟩

/-- Settles O10: what STRIP keeps in `WB` is the beginning of what it held. -/
theorem stripShortensTheWorkBuffer : Obligations.StripShortensTheWorkBuffer := fun s =>
  ⟨exec_strip s, take_length_strip s.wb⟩

end Sys2Proof
end

section
/-! GF(2^8) as a quotient of the polynomials over GF(2): bytes are residues modulo the field polynomial, and
the loops of R122 compute their product. The laws of the arithmetic are read off that ring. -/

namespace Sys2Proof.Machine

open Polynomial

/-! ### Bit vectors as polynomials -/

/-- The polynomial over GF(2) whose coefficient of `X^i` is bit `i`. -/
noncomputable def bitsPoly {n : Nat} (b : BitVec n) : (ZMod 2)[X] :=
  ∑ i ∈ Finset.range n, if b.getLsbD i then X ^ i else 0

theorem coeff_bitsPoly {n : Nat} (b : BitVec n) (k : Nat) :
    (bitsPoly b).coeff k = if b.getLsbD k then 1 else 0 := by
  have hterm (i : Nat) : (if b.getLsbD i then (X : (ZMod 2)[X]) ^ i else 0).coeff k =
      if k = i then (if b.getLsbD k then 1 else 0) else 0 := by
    rcases eq_or_ne k i with rfl | hne
    · split <;> simp
    · split <;> simp [coeff_X_pow, hne]
  rw [bitsPoly, finsetSum_coeff]
  simp only [hterm, Finset.sum_ite_eq, Finset.mem_range]
  rcases Nat.lt_or_ge k n with hk | hk
  · rw [if_pos hk]
  · rw [if_neg (by omega), BitVec.getLsbD_of_ge b k hk, if_neg Bool.false_ne_true]

theorem bitsPoly_xor {n : Nat} (a b : BitVec n) : bitsPoly (a ^^^ b) = bitsPoly a + bitsPoly b := by
  have htwo : (1 : ZMod 2) + 1 = 0 := by decide
  ext k
  simp only [coeff_add, coeff_bitsPoly, BitVec.getLsbD_xor]
  cases a.getLsbD k <;> cases b.getLsbD k <;> simp [htwo]

theorem bitsPoly_zero (n : Nat) : bitsPoly (0 : BitVec n) = 0 := by
  ext k
  simp [coeff_bitsPoly]

/-- Taking away or adding zero bits at the top does not change the polynomial. -/
theorem bitsPoly_setWidth {n m : Nat} {b : BitVec n} (h : ∀ k, m ≤ k → b.getLsbD k = false) :
    bitsPoly (b.setWidth m) = bitsPoly b := by
  ext k
  rw [coeff_bitsPoly, coeff_bitsPoly, BitVec.getLsbD_setWidth]
  rcases Nat.lt_or_ge k m with hk | hk
  · simp [hk]
  · simp [h k hk]

/-- A shift that loses no bit multiplies by a power of `X`. -/
theorem bitsPoly_setWidth_shiftLeft {n m i : Nat} (h : n + i ≤ m) (b : BitVec n) :
    bitsPoly (b.setWidth m <<< i) = X ^ i * bitsPoly b := by
  ext k
  rw [coeff_X_pow_mul', coeff_bitsPoly, coeff_bitsPoly, BitVec.getLsbD_shiftLeft, BitVec.getLsbD_setWidth]
  rcases Nat.lt_or_ge k i with hki | hki
  · simp [hki]
  · rw [if_pos hki]
    rcases Nat.lt_or_ge k m with hkm | hkm
    · simp [hkm, hki, show k - i < m by omega]
    · simp [show ¬ k < m by omega, BitVec.getLsbD_of_ge b (k - i) (by omega)]

/-! ### The two loops of R122 -/

/-- The first loop is the product of the polynomials. -/
theorem bitsPoly_gfProduct (a b : Byte) : bitsPoly (gfProduct a b) = bitsPoly a * bitsPoly b := by
  have hloop (l : List Nat) (hl : ∀ i ∈ l, i < 8) (r : BitVec 15) :
      bitsPoly (l.foldl (fun r i => bif b.getLsbD i then r ^^^ (a.setWidth 15 <<< i) else r) r) =
        bitsPoly r + (l.map (fun i => if b.getLsbD i then X ^ i else 0)).sum * bitsPoly a := by
    induction l generalizing r with
    | nil => simp
    | cons i l ih =>
      have hi : 8 + i ≤ 15 := by have := hl i List.mem_cons_self; omega
      rw [List.foldl_cons, ih fun j hj => hl j (List.mem_cons_of_mem i hj), List.map_cons, List.sum_cons]
      cases b.getLsbD i with
      | true => rw [cond_true, bitsPoly_xor, bitsPoly_setWidth_shiftLeft hi, if_pos rfl]; ring
      | false => simp
  rw [gfProduct, hloop _ (by decide), bitsPoly_zero, zero_add, mul_comm, bitsPoly, bitsPoly]
  rfl

/-- One round of the second loop: bit `i` is cleared by a multiple of the field polynomial. -/
def reduceStep (poly : BitVec 9) (r : BitVec 15) (i : Nat) : BitVec 15 :=
  bif r.getLsbD i then r ^^^ (poly.setWidth 15 <<< (i - 8)) else r

theorem gfReduce_eq (poly : BitVec 9) (r : BitVec 15) :
    gfReduce poly r = [14, 13, 12, 11, 10, 9, 8].foldl (reduceStep poly) r := rfl

/-- The field polynomial divides what a round changes. -/
theorem dvd_bitsPoly_reduceStep_sub {poly : BitVec 9} {i : Nat} (hi : i ≤ 14) (r : BitVec 15) :
    bitsPoly poly ∣ bitsPoly (reduceStep poly r i) - bitsPoly r := by
  unfold reduceStep
  cases r.getLsbD i with
  | true =>
    rw [cond_true, bitsPoly_xor, bitsPoly_setWidth_shiftLeft (by omega), add_sub_cancel_left]
    exact dvd_mul_left _ _
  | false => simp

theorem dvd_bitsPoly_foldl_reduceStep_sub {poly : BitVec 9} {l : List Nat} (hl : ∀ i ∈ l, i ≤ 14)
    (r : BitVec 15) : bitsPoly poly ∣ bitsPoly (l.foldl (reduceStep poly) r) - bitsPoly r := by
  induction l generalizing r with
  | nil => simp
  | cons i l ih =>
    have hrest := ih (fun j hj => hl j (List.mem_cons_of_mem i hj)) (reduceStep poly r i)
    have hstep := dvd_bitsPoly_reduceStep_sub (poly := poly) (hl i List.mem_cons_self) r
    simpa using dvd_add hrest hstep

/-- A round leaves no bit from `i` on when there was none above `i`. -/
theorem reduceStep_clears {poly : BitVec 9} (hpoly : poly.getLsbD 8 = true) {i : Nat} (hi : 8 ≤ i)
    {r : BitVec 15} (hr : ∀ k, i + 1 ≤ k → r.getLsbD k = false) :
    ∀ k, i ≤ k → (reduceStep poly r i).getLsbD k = false := by
  intro k hk
  unfold reduceStep
  rcases Nat.eq_or_lt_of_le hk with rfl | hlt
  · cases hbit : r.getLsbD i with
    | true =>
      have hi15 : i < 15 := BitVec.lt_of_getLsbD hbit
      rw [cond_true, BitVec.getLsbD_xor, hbit, BitVec.getLsbD_shiftLeft, BitVec.getLsbD_setWidth,
        show i - (i - 8) = 8 by omega, hpoly]
      simp [hi15, show ¬ i < i - 8 by omega]
    | false => exact hbit
  · have hpolyk : poly.getLsbD (k - (i - 8)) = false := BitVec.getLsbD_of_ge _ _ (by omega)
    cases r.getLsbD i <;> simp [hr k hlt, hpolyk]

/-- After the second loop no bit above bit 7 is left. -/
theorem gfReduce_clears {poly : BitVec 9} (hpoly : poly.getLsbD 8 = true) (r : BitVec 15) :
    ∀ k, 8 ≤ k → (gfReduce poly r).getLsbD k = false := by
  have hround {i : Nat} (hi : 8 ≤ i) {r : BitVec 15} := reduceStep_clears hpoly hi (r := r)
  exact hround (by omega) (hround (by omega) (hround (by omega) (hround (by omega) (hround (by omega)
    (hround (by omega) (hround (by omega) fun k => BitVec.getLsbD_of_ge r k))))))

/-! ### Bytes as residues -/

/-- The polynomials over GF(2) modulo the field polynomial. -/
abbrev GF (poly : BitVec 9) : Type := AdjoinRoot (bitsPoly poly)

/-- The residue that a byte stands for. -/
noncomputable def toGF (poly : BitVec 9) (b : Byte) : GF poly := AdjoinRoot.mk _ (bitsPoly b)

section

variable {poly : BitVec 9}

theorem toGF_zero : toGF poly 0 = 0 := by rw [toGF, bitsPoly_zero, map_zero]

theorem toGF_one : toGF poly 1 = 1 := by
  have hone : bitsPoly (1 : Byte) = 1 := by simp [bitsPoly]
  rw [toGF, hone, map_one]

theorem toGF_gfAdd (a b : Byte) : toGF poly (gfAdd a b) = toGF poly a + toGF poly b := by
  rw [toGF, gfAdd, bitsPoly_xor, map_add, toGF, toGF]

theorem gfAdd_ne_zero {a b : Byte} (h : a ≠ b) : gfAdd a b ≠ 0 := mt BitVec.xor_eq_zero_iff.mp h

theorem toGF_add_self (a : Byte) : toGF poly a + toGF poly a = 0 := by
  rw [← toGF_gfAdd, gfAdd, BitVec.xor_self]
  exact toGF_zero

theorem two_eq_zero : (2 : GF poly) = 0 := by
  rw [← one_add_one_eq_two, ← toGF_one, toGF_add_self]

theorem toGF_alpha : toGF poly alpha = AdjoinRoot.root (bitsPoly poly) := by
  have hX : bitsPoly alpha = X := by simp [bitsPoly, Finset.sum_range_succ, alpha]
  rw [toGF, hX, AdjoinRoot.mk_X]

variable (hpoly : poly.getLsbD 8 = true)
include hpoly

/-- R122: the two loops multiply residues. -/
theorem toGF_gfMul (a b : Byte) : toGF poly (gfMul poly a b) = toGF poly a * toGF poly b := by
  have hdvd := dvd_bitsPoly_foldl_reduceStep_sub (poly := poly) (l := [14, 13, 12, 11, 10, 9, 8])
    (by decide) (gfProduct a b)
  rw [← gfReduce_eq, bitsPoly_gfProduct, ← AdjoinRoot.mk_eq_mk, map_mul] at hdvd
  rw [toGF, gfMul, bitsPoly_setWidth (gfReduce_clears hpoly _), hdvd, toGF, toGF]

/-- Different bytes are different residues: their difference has a degree below 8. -/
theorem toGF_injective : Function.Injective (toGF poly) := by
  intro a b hab
  have hdvd : bitsPoly poly ∣ bitsPoly a - bitsPoly b := AdjoinRoot.mk_eq_mk.mp hab
  have hdegree : 8 ≤ (bitsPoly poly).degree :=
    le_degree_of_ne_zero (n := 8) (by rw [coeff_bitsPoly, if_pos hpoly]; exact one_ne_zero)
  have hlow : (bitsPoly a - bitsPoly b).degree < 8 := by
    refine (degree_lt_iff_coeff_zero _ 8).mpr fun k hk => ?_
    simp [coeff_bitsPoly, BitVec.getLsbD_of_ge _ k hk]
  have hzero := eq_zero_of_dvd_of_degree_lt hdvd (hlow.trans_le hdegree)
  refine BitVec.eq_of_getLsbD_eq fun k _ => ?_
  have hk := congrArg (coeff · k) hzero
  simp only [coeff_sub, coeff_bitsPoly, coeff_zero, sub_eq_zero] at hk
  revert hk
  cases a.getLsbD k <;> cases b.getLsbD k <;> simp

theorem toGF_gfPow (a : Byte) (n : Nat) : toGF poly (gfPow poly a n) = toGF poly a ^ n := by
  induction n with
  | zero => exact toGF_one.trans (pow_zero _).symm
  | succ n ih => rw [gfPow, toGF_gfMul hpoly, ih, pow_succ]

/-- The product of the squarings is the power 254. -/
theorem gfInv_eq_gfPow (a : Byte) : gfInv poly a = gfPow poly a 254 := by
  refine toGF_injective hpoly ?_
  simp only [gfInv, toGF_gfMul hpoly, toGF_gfPow hpoly]
  ring

end

/-! ### Legal field polynomials -/

theorem gfPoly_bit8 {p : Params} (hp : p.wf = true) : p.gfPoly.getLsbD 8 = true := by
  have hlegal := (Params.wf_iff p).mp hp
  have hmsb : p.gfPoly.msb = true := by
    rw [BitVec.msb_eq_decide, decide_eq_true_eq]
    omega
  rwa [BitVec.msb_eq_getLsbD_last] at hmsb

theorem gfPoly_bit0 {p : Params} (hp : p.wf = true) : p.gfPoly.getLsbD 0 = true := by
  obtain ⟨-, -, -, -, -, -, -, hbit0, -⟩ := (Params.wf_iff p).mp hp
  exact hbit0

/-- With an odd field polynomial `X` divides -1 modulo it. -/
theorem isUnit_toGF_alpha {poly : BitVec 9} (h0 : poly.getLsbD 0 = true) : IsUnit (toGF poly alpha) := by
  have hsplit := congrArg (AdjoinRoot.mk (bitsPoly poly)) (divX_mul_X_add (bitsPoly poly))
  rw [coeff_bitsPoly, if_pos h0, C_1, map_add, map_mul, map_one, AdjoinRoot.mk_self, AdjoinRoot.mk_X,
    ← toGF_alpha] at hsplit
  refine IsUnit.of_mul_eq_one (-AdjoinRoot.mk _ (divX (bitsPoly poly))) ?_
  linear_combination -hsplit

section

variable {p : Params} (hp : p.wf = true)
include hp

theorem toGF_ne_zero {a : Byte} (ha : a ≠ 0) : toGF p.gfPoly a ≠ 0 :=
  fun h => ha (toGF_injective (gfPoly_bit8 hp) (h.trans toGF_zero.symm))

theorem gfPow_alpha_ne_zero (i : Nat) : gfPow p.gfPoly alpha i ≠ 0 := by
  have hpoly := gfPoly_bit8 hp
  have : Nontrivial (GF p.gfPoly) := ⟨⟨_, _, (toGF_injective hpoly).ne (show (0 : Byte) ≠ 1 by decide)⟩⟩
  intro h
  have hunit := (isUnit_toGF_alpha (gfPoly_bit0 hp)).pow i
  rw [← toGF_gfPow hpoly, h, toGF_zero] at hunit
  exact not_isUnit_zero hunit

theorem gfPow_alpha_inj {i j : Nat} (hi : i < 255) (hj : j < 255)
    (h : gfPow p.gfPoly alpha i = gfPow p.gfPoly alpha j) : i = j := by
  obtain ⟨-, -, -, -, -, -, -, -, hdistinct, -⟩ := (Params.wf_iff p).mp hp
  rcases Nat.lt_trichotomy i j with hlt | heq | hgt
  · exact absurd h (hdistinct i j hlt hj)
  · exact heq
  · exact absurd h.symm (hdistinct j i hgt hi)

/-- R123: the 255 powers are all of the 255 nonzero bytes. -/
theorem exists_gfPow_alpha {b : Byte} (hb : b ≠ 0) : ∃ i < 255, gfPow p.gfPoly alpha i = b := by
  have hsubset : (Finset.range 255).image (gfPow p.gfPoly alpha) ⊆ Finset.univ.erase 0 := by
    intro a ha
    obtain ⟨i, -, rfl⟩ := Finset.mem_image.mp ha
    exact Finset.mem_erase.mpr ⟨gfPow_alpha_ne_zero hp i, Finset.mem_univ _⟩
  have hcard : ((Finset.range 255).image (gfPow p.gfPoly alpha)).card = 255 := by
    rw [Finset.card_image_of_injOn, Finset.card_range]
    exact fun i hi j hj => gfPow_alpha_inj hp (Finset.mem_range.mp hi) (Finset.mem_range.mp hj)
  have hbytes : Fintype.card Byte = 256 := FinEnum.card_eq_fintypeCard.symm.trans (FinEnum.card_bitVec 8)
  have hall := Finset.eq_of_subset_of_card_le hsubset (by
    rw [hcard, Finset.card_erase_of_mem (Finset.mem_univ _), Finset.card_univ, hbytes])
  have hmem : b ∈ Finset.univ.erase 0 := Finset.mem_erase.mpr ⟨hb, Finset.mem_univ _⟩
  obtain ⟨i, hi, hib⟩ := Finset.mem_image.mp (hall ▸ hmem)
  exact ⟨i, Finset.mem_range.mp hi, hib⟩

/-- R123: power 255 repeats an earlier one; as `ALPHA` is a unit, it repeats power 0. -/
theorem toGF_alpha_pow_255 : toGF p.gfPoly alpha ^ 255 = 1 := by
  have hpoly := gfPoly_bit8 hp
  obtain ⟨i, hi, hrepeat⟩ := exists_gfPow_alpha hp (gfPow_alpha_ne_zero hp 255)
  have hperiod : toGF p.gfPoly alpha ^ (255 - i) = 1 := by
    refine ((isUnit_toGF_alpha (gfPoly_bit0 hp)).pow i).mul_left_cancel ?_
    rw [← pow_add, Nat.add_sub_cancel' hi.le, mul_one, ← toGF_gfPow hpoly, ← toGF_gfPow hpoly, hrepeat]
  rcases Nat.eq_zero_or_pos i with rfl | hpos
  · exact hperiod
  · have hzero : gfPow p.gfPoly alpha (255 - i) = gfPow p.gfPoly alpha 0 :=
      toGF_injective hpoly (by rw [toGF_gfPow hpoly, hperiod, toGF_gfPow hpoly, pow_zero])
    have := gfPow_alpha_inj hp (by omega) (by omega) hzero
    omega

/-- R123: `gf_inv(a)` is an inverse of `a`. -/
theorem toGF_mul_gfInv {a : Byte} (ha : a ≠ 0) : toGF p.gfPoly a * toGF p.gfPoly (gfInv p.gfPoly a) = 1 := by
  have hpoly := gfPoly_bit8 hp
  obtain ⟨i, -, rfl⟩ := exists_gfPow_alpha hp ha
  calc toGF p.gfPoly (gfPow p.gfPoly alpha i) * toGF p.gfPoly (gfInv p.gfPoly (gfPow p.gfPoly alpha i))
      = (toGF p.gfPoly alpha ^ 255) ^ i := by
        simp only [gfInv_eq_gfPow hpoly, toGF_gfPow hpoly]; ring
    _ = 1 := by rw [toGF_alpha_pow_255 hp, one_pow]

theorem gfPow_ne_zero {a : Byte} (ha : a ≠ 0) (n : Nat) : gfPow p.gfPoly a n ≠ 0 := by
  have hpoly := gfPoly_bit8 hp
  obtain ⟨i, -, rfl⟩ := exists_gfPow_alpha hp ha
  have hpow : gfPow p.gfPoly (gfPow p.gfPoly alpha i) n = gfPow p.gfPoly alpha (i * n) :=
    toGF_injective hpoly (by simp only [toGF_gfPow hpoly, pow_mul])
  exact hpow ▸ gfPow_alpha_ne_zero hp (i * n)

theorem gfMul_gfInv_cancel {a : Byte} (ha : a ≠ 0) (y : Byte) :
    gfMul p.gfPoly (gfMul p.gfPoly y a) (gfInv p.gfPoly a) = y := by
  have hpoly := gfPoly_bit8 hp
  apply toGF_injective hpoly
  rw [toGF_gfMul hpoly, toGF_gfMul hpoly, mul_assoc, toGF_mul_gfInv hp ha, mul_one]

theorem gfMul_ne_zero {a b : Byte} (ha : a ≠ 0) (hb : b ≠ 0) : gfMul p.gfPoly a b ≠ 0 := by
  have hpoly := gfPoly_bit8 hp
  intro h
  have hzero : toGF p.gfPoly a * toGF p.gfPoly b = 0 := by rw [← toGF_gfMul hpoly, h, toGF_zero]
  refine toGF_ne_zero hp ha ?_
  linear_combination toGF p.gfPoly (gfInv p.gfPoly b) * hzero - toGF p.gfPoly a * toGF_mul_gfInv hp hb

end

end Sys2Proof.Machine

namespace Sys2Proof

open Sys2Proof.Machine

/-- Settles O47: bytes are residues modulo the field polynomial, whose ring has these laws. -/
theorem multiplicationIsACommutativeRing : Obligations.MultiplicationIsACommutativeRing := by
  refine ⟨fun a b c => ⟨rfl, BitVec.xor_zero, BitVec.xor_self, BitVec.xor_comm a b,
    BitVec.xor_assoc a b c⟩, fun p hp a b c => ?_, by decide, by decide, by decide⟩
  have hpoly := gfPoly_bit8 hp
  have hinj := toGF_injective hpoly
  refine ⟨hinj ?_, hinj ?_, hinj ?_, hinj ?_, hinj ?_⟩ <;>
    simp only [toGF_gfMul hpoly, toGF_gfAdd, toGF_zero, toGF_one] <;> ring

/-- Settles O48: `ALPHA` is a unit of order 255, and there are 255 nonzero bytes. -/
theorem alphaGeneratesAndInversesExist : Obligations.AlphaGeneratesAndInversesExist := by
  intro p hp
  have hpoly := gfPoly_bit8 hp
  refine ⟨fun i _ => gfPow_alpha_ne_zero hp i, fun b hb => ?_, toGF_injective hpoly ?_,
    fun a ha => ⟨gfInv_eq_gfPow hpoly a, fun b => ?_⟩⟩
  · obtain ⟨i, hi, hib⟩ := exists_gfPow_alpha hp hb
    exact ⟨i, hi, hib, fun j hj hjb => gfPow_alpha_inj hp hj hi (hjb.trans hib.symm)⟩
  · rw [toGF_gfPow hpoly, toGF_alpha_pow_255 hp, toGF_one]
  · have hinv := toGF_mul_gfInv hp ha
    rw [← (toGF_injective hpoly).eq_iff, ← (toGF_injective hpoly).eq_iff, toGF_gfMul hpoly, toGF_one]
    constructor
    · intro h
      linear_combination toGF p.gfPoly (gfInv p.gfPoly a) * h - toGF p.gfPoly b * hinv
    · intro h
      rw [h, hinv]

end Sys2Proof
end

section
/-! The code: Horner's rule over residues, the generator polynomial and the encoder's division by it. -/

namespace Sys2Proof.Machine

/-! ### Horner's rule -/

section

variable {poly : BitVec 9}

theorem gfHorner_append_singleton (x : Byte) (w : List Byte) (b : Byte) :
    gfHorner poly x (w ++ [b]) = gfAdd (gfMul poly (gfHorner poly x w) x) b := by
  rw [gfHorner, List.foldl_append]; rfl

@[simp] theorem toGF_gfHorner_nil (x : Byte) : toGF poly (gfHorner poly x []) = 0 := toGF_zero

variable (hpoly : poly.getLsbD 8 = true)
include hpoly

theorem toGF_gfHorner_append_singleton (x : Byte) (w : List Byte) (b : Byte) :
    toGF poly (gfHorner poly x (w ++ [b])) = toGF poly (gfHorner poly x w) * toGF poly x + toGF poly b := by
  rw [gfHorner_append_singleton, toGF_gfAdd, toGF_gfMul hpoly]

theorem toGF_gfHorner_append (x : Byte) (v w : List Byte) :
    toGF poly (gfHorner poly x (v ++ w)) =
      toGF poly (gfHorner poly x v) * toGF poly x ^ w.length + toGF poly (gfHorner poly x w) := by
  induction w using List.reverseRecOn with
  | nil => simp
  | append_singleton w b ih =>
    rw [← List.append_assoc, toGF_gfHorner_append_singleton hpoly, toGF_gfHorner_append_singleton hpoly,
      ih, List.length_append, List.length_singleton]
    ring

theorem toGF_gfHorner_cons (x b : Byte) (w : List Byte) :
    toGF poly (gfHorner poly x (b :: w)) =
      toGF poly b * toGF poly x ^ w.length + toGF poly (gfHorner poly x w) := by
  have hsingle : toGF poly (gfHorner poly x [b]) = toGF poly b := by
    simpa using toGF_gfHorner_append_singleton hpoly x [] b
  rw [← List.singleton_append, toGF_gfHorner_append hpoly, hsingle]

theorem toGF_gfHorner_zipWith_gfAdd (x : Byte) {v w : List Byte} (h : v.length = w.length) :
    toGF poly (gfHorner poly x (List.zipWith gfAdd v w)) =
      toGF poly (gfHorner poly x v) + toGF poly (gfHorner poly x w) := by
  induction v generalizing w with
  | nil => rw [List.length_eq_zero_iff.mp h.symm]; simp
  | cons a v ih =>
    cases w with
    | nil => cases h
    | cons b w =>
      have hlen : v.length = w.length := Nat.succ.inj h
      rw [List.zipWith_cons_cons, toGF_gfHorner_cons hpoly, toGF_gfHorner_cons hpoly,
        toGF_gfHorner_cons hpoly, ih hlen, toGF_gfAdd, List.length_zipWith, hlen, Nat.min_self]
      ring

theorem toGF_gfHorner_map_gfMul (x q : Byte) (w : List Byte) :
    toGF poly (gfHorner poly x (w.map (gfMul poly q))) = toGF poly q * toGF poly (gfHorner poly x w) := by
  induction w with
  | nil => simp
  | cons b w ih =>
    rw [List.map_cons, toGF_gfHorner_cons hpoly, toGF_gfHorner_cons hpoly, ih, toGF_gfMul hpoly,
      List.length_map]
    ring

theorem toGF_gfHorner_replicate_zero (x : Byte) (n : Nat) :
    toGF poly (gfHorner poly x (List.replicate n 0)) = 0 := by
  induction n with
  | zero => exact toGF_zero
  | succ n ih => rw [List.replicate_succ, toGF_gfHorner_cons hpoly, ih, toGF_zero, zero_mul, add_zero]

/-! ### The generator polynomial -/

theorem toGF_gfHorner_timesRoot (x r : Byte) (g : List Byte) :
    toGF poly (gfHorner poly x (timesRoot poly r g)) =
      toGF poly (gfHorner poly x g) * (toGF poly x + toGF poly r) := by
  rw [timesRoot, toGF_gfHorner_zipWith_gfAdd hpoly _ (by simp), toGF_gfHorner_append_singleton hpoly,
    toGF_gfHorner_cons hpoly, toGF_gfHorner_map_gfMul hpoly, toGF_zero]
  ring

end

@[simp] theorem length_timesRoot (poly : BitVec 9) (r : Byte) (g : List Byte) :
    (timesRoot poly r g).length = g.length + 1 := by simp [timesRoot]

theorem head?_timesRoot {poly : BitVec 9} (r : Byte) {g : List Byte} (h : g.head? = some 0x01) :
    (timesRoot poly r g).head? = some 0x01 := by
  obtain ⟨t, rfl⟩ := List.head?_eq_some_iff.mp h
  rfl

/-- The product of the first `n` factors of R124. -/
def generatorPrefix (p : Params) (n : Nat) : List Byte :=
  (List.range n).foldl (fun g j => timesRoot p.gfPoly (codeRoot p j) g) [0x01]

theorem generator_eq (p : Params) : generator p = generatorPrefix p p.npar := rfl

theorem generatorPrefix_succ (p : Params) (n : Nat) :
    generatorPrefix p (n + 1) = timesRoot p.gfPoly (codeRoot p n) (generatorPrefix p n) := by
  rw [generatorPrefix, List.range_succ, List.foldl_append]; rfl

@[simp] theorem length_generatorPrefix (p : Params) (n : Nat) : (generatorPrefix p n).length = n + 1 := by
  induction n with
  | zero => rfl
  | succ n ih => rw [generatorPrefix_succ, length_timesRoot, ih]

@[simp] theorem length_generator (p : Params) : (generator p).length = p.npar + 1 :=
  length_generatorPrefix p p.npar

theorem head?_generatorPrefix (p : Params) (n : Nat) : (generatorPrefix p n).head? = some 0x01 := by
  induction n with
  | zero => rfl
  | succ n ih => rw [generatorPrefix_succ, head?_timesRoot _ ih]

/-- R124: `g(x)` is monic. -/
theorem generator_eq_cons (p : Params) : generator p = 0x01 :: (generator p).tail :=
  List.eq_cons_of_mem_head? (head?_generatorPrefix p p.npar)

section

variable {p : Params} (hp : p.wf = true)
include hp

/-- R124: each factor brings its root. -/
theorem toGF_gfHorner_generatorPrefix {j n : Nat} (h : j < n) :
    toGF p.gfPoly (gfHorner p.gfPoly (codeRoot p j) (generatorPrefix p n)) = 0 := by
  induction n with
  | zero => exact absurd h (Nat.not_lt_zero j)
  | succ n ih =>
    rw [generatorPrefix_succ, toGF_gfHorner_timesRoot (gfPoly_bit8 hp)]
    rcases Nat.lt_succ_iff_lt_or_eq.mp h with hlt | rfl
    · rw [ih hlt, zero_mul]
    · rw [toGF_add_self, mul_zero]

theorem toGF_gfHorner_generator {j : Nat} (hj : j < p.npar) :
    toGF p.gfPoly (gfHorner p.gfPoly (codeRoot p j) (generator p)) = 0 :=
  toGF_gfHorner_generatorPrefix hp hj

/-- Powers of `ALPHA` from any exponent on repeat only after 255. -/
theorem gfPow_alpha_add_inj {k i j : Nat} (hi : i < 255) (hj : j < 255)
    (h : gfPow p.gfPoly alpha (k + i) = gfPow p.gfPoly alpha (k + j)) : i = j := by
  have hpoly := gfPoly_bit8 hp
  have h' := congrArg (toGF p.gfPoly) h
  rw [toGF_gfPow hpoly, toGF_gfPow hpoly, pow_add, pow_add] at h'
  have hcancel := ((isUnit_toGF_alpha (gfPoly_bit0 hp)).pow k).mul_left_cancel h'
  rw [← toGF_gfPow hpoly, ← toGF_gfPow hpoly] at hcancel
  exact gfPow_alpha_inj hp hi hj (toGF_injective hpoly hcancel)

/-! ### The encoder -/

/-- R126: at a root of `g(x)` the division step is one step of Horner's rule on the shifted message. -/
theorem toGF_gfHorner_divideStep {j : Nat} (hj : j < p.npar) {r : List Byte} (hr : r.length = p.npar)
    (b : Byte) :
    toGF p.gfPoly (gfHorner p.gfPoly (codeRoot p j) (divideStep p r b)) =
      toGF p.gfPoly (gfHorner p.gfPoly (codeRoot p j) r) * toGF p.gfPoly (codeRoot p j) +
        toGF p.gfPoly b * toGF p.gfPoly (codeRoot p j) ^ p.npar := by
  have hpoly := gfPoly_bit8 hp
  have hroot := toGF_gfHorner_generator hp hj
  rw [generator_eq_cons, toGF_gfHorner_cons hpoly, List.length_tail, length_generator, Nat.add_sub_cancel,
    toGF_one] at hroot
  cases r with
  | nil => rw [← hr] at hj; exact absurd hj (Nat.not_lt_zero j)
  | cons a r =>
    rw [List.length_cons] at hr
    rw [divideStep, toGF_gfHorner_zipWith_gfAdd hpoly _ (by simp [hr]), List.tail_cons, List.headD_cons,
      toGF_gfHorner_append_singleton hpoly, toGF_gfHorner_map_gfMul hpoly, toGF_gfHorner_cons hpoly,
      toGF_gfAdd, toGF_zero]
    rw [← hr] at hroot ⊢
    linear_combination (toGF p.gfPoly a + toGF p.gfPoly b) * hroot -
      (toGF p.gfPoly a + toGF p.gfPoly b) * toGF p.gfPoly (codeRoot p j) ^ (r.length + 1) * two_eq_zero

end

theorem length_divideStep {p : Params} {r : List Byte} (h : 1 ≤ p.npar) (hr : r.length = p.npar) (b : Byte) :
    (divideStep p r b).length = p.npar := by
  simp [divideStep, hr, Nat.sub_add_cancel h]

theorem parity_append_singleton (p : Params) (m : List Byte) (b : Byte) :
    parity p (m ++ [b]) = divideStep p (parity p m) b := by
  rw [parity, List.foldl_append]; rfl

theorem length_parity {p : Params} (h : 1 ≤ p.npar) (m : List Byte) : (parity p m).length = p.npar := by
  induction m using List.reverseRecOn with
  | nil => exact List.length_replicate
  | append_singleton m b ih => rw [parity_append_singleton, length_divideStep h ih]

theorem length_encode {p : Params} (h : 1 ≤ p.npar) (m : List Byte) :
    (encode p m).length = m.length + p.npar := by
  rw [encode, List.length_append, length_parity h]

theorem npar_pos {p : Params} (hp : p.wf = true) : 1 ≤ p.npar := by
  obtain ⟨-, -, hnpar, -⟩ := (Params.wf_iff p).mp hp
  exact hnpar

theorem kMsg_add_npar_le {p : Params} (hp : p.wf = true) : p.kMsg + p.npar ≤ 255 := by
  obtain ⟨-, -, -, -, hlen, -⟩ := (Params.wf_iff p).mp hp
  exact hlen

/-- R126: the parity is `M(x) x^NPAR` modulo `g(x)`, so it agrees with it at the roots of `g(x)`. -/
theorem toGF_gfHorner_parity {p : Params} (hp : p.wf = true) {j : Nat} (hj : j < p.npar) (m : List Byte) :
    toGF p.gfPoly (gfHorner p.gfPoly (codeRoot p j) (parity p m)) =
      toGF p.gfPoly (gfHorner p.gfPoly (codeRoot p j) m) * toGF p.gfPoly (codeRoot p j) ^ p.npar := by
  have hpoly := gfPoly_bit8 hp
  induction m using List.reverseRecOn with
  | nil =>
    rw [parity, List.foldl_nil, toGF_gfHorner_replicate_zero hpoly, toGF_gfHorner_nil, zero_mul]
  | append_singleton m b ih =>
    rw [parity_append_singleton, toGF_gfHorner_divideStep hp hj (length_parity (npar_pos hp) m), ih,
      toGF_gfHorner_append_singleton hpoly]
    ring

/-- R125: a word is a codeword when it is long enough and its syndromes vanish. -/
theorem isCodeword_iff (p : Params) (w : List Byte) :
    isCodeword p w = true ↔ p.npar < w.length ∧ ∀ j < p.npar, syndrome p w j = 0 := by
  simp [isCodeword, allZero_iff, syndromes]

/-- R126: `encode(m)` is a codeword. -/
theorem isCodeword_encode {p : Params} (hp : p.wf = true) {m : List Byte} (hm : 1 ≤ m.length) :
    isCodeword p (encode p m) = true := by
  have hpoly := gfPoly_bit8 hp
  refine (isCodeword_iff p _).mpr ⟨by rw [length_encode (npar_pos hp)]; omega, fun j hj => ?_⟩
  apply toGF_injective hpoly
  rw [syndrome, encode, toGF_gfHorner_append hpoly, toGF_gfHorner_parity hp hj, length_parity (npar_pos hp),
    toGF_zero, ← two_mul, two_eq_zero, zero_mul]

end Sys2Proof.Machine

namespace Sys2Proof

open Sys2Proof.Machine

/-- Settles O49: each factor of `g(x)` adds one to the degree and its root, and the roots are fewer than 255
consecutive powers of `ALPHA`. -/
theorem generatorHasTheConsecutiveRoots : Obligations.GeneratorHasTheConsecutiveRoots := by
  intro p hp
  have hlen := kMsg_add_npar_le hp
  refine ⟨length_generator p, head?_generatorPrefix p p.npar, fun j hj => ?_, fun i j hi hj h => ?_⟩
  · exact toGF_injective (gfPoly_bit8 hp) ((toGF_gfHorner_generator hp hj).trans toGF_zero.symm)
  · exact gfPow_alpha_add_inj hp (by omega) (by omega) h

end Sys2Proof
end

section
/-! The decoder: the syndromes of a received word are power sums over its error locators, which the search
solves exactly when there are at most `NPAR` of them. -/

namespace Sys2Proof.Machine

/-! ### Power sums -/

/-- `sum over k of y_k X_k^j`, for the terms `(y_k, X_k)`. -/
def powerSum (poly : BitVec 9) (terms : List (Byte × Byte)) (j : Nat) : Byte :=
  (terms.map (fun t => gfMul poly t.1 (gfPow poly t.2 j))).foldr gfAdd 0

/-- The sums for `j = 0, 1, …, n - 1`. -/
def powerSums (poly : BitVec 9) (n : Nat) (terms : List (Byte × Byte)) : List Byte :=
  (List.range n).map (powerSum poly terms)

/-- The terms whose sums `peelLocator` computes. -/
def peelTerms (poly : BitVec 9) (x : Byte) (terms : List (Byte × Byte)) : List (Byte × Byte) :=
  terms.map (fun t => (gfMul poly t.1 (gfAdd t.2 x), t.2))

@[simp] theorem length_peelTerms (poly : BitVec 9) (x : Byte) (terms : List (Byte × Byte)) :
    (peelTerms poly x terms).length = terms.length := List.length_map _

@[simp] theorem map_snd_peelTerms (poly : BitVec 9) (x : Byte) (terms : List (Byte × Byte)) :
    (peelTerms poly x terms).map Prod.snd = terms.map Prod.snd := by simp [peelTerms]

section

variable {poly : BitVec 9}

theorem toGF_foldl_gfAdd (l : List Byte) (a : Byte) :
    toGF poly (l.foldl gfAdd a) = toGF poly a + (l.map (toGF poly)).sum := by
  induction l generalizing a with
  | nil => simp
  | cons b l ih => rw [List.foldl_cons, ih, toGF_gfAdd, List.map_cons, List.sum_cons, add_assoc]

variable (hpoly : poly.getLsbD 8 = true)
include hpoly

theorem toGF_powerSum (terms : List (Byte × Byte)) (j : Nat) :
    toGF poly (powerSum poly terms j) = (terms.map (fun t => toGF poly t.1 * toGF poly t.2 ^ j)).sum := by
  rw [powerSum]
  induction terms with
  | nil => exact toGF_zero
  | cons t terms ih =>
    rw [List.map_cons, List.foldr_cons, toGF_gfAdd, ih, toGF_gfMul hpoly, toGF_gfPow hpoly, List.map_cons,
      List.sum_cons]

theorem powerSums_of_zero (n : Nat) {terms : List (Byte × Byte)} (h : ∀ t ∈ terms, t.1 = 0) :
    powerSums poly n terms = List.replicate n 0 := by
  refine List.eq_replicate_iff.mpr ⟨by simp [powerSums], fun b hb => ?_⟩
  obtain ⟨j, -, rfl⟩ := List.mem_map.mp hb
  apply toGF_injective hpoly
  rw [toGF_powerSum hpoly, toGF_zero]
  refine List.sum_eq_zero fun y hy => ?_
  obtain ⟨t, ht, rfl⟩ := List.mem_map.mp hy
  rw [h t ht, toGF_zero, zero_mul]

theorem powerSum_peelTerms (x : Byte) (terms : List (Byte × Byte)) (j : Nat) :
    powerSum poly (peelTerms poly x terms) j =
      gfAdd (powerSum poly terms (j + 1)) (gfMul poly x (powerSum poly terms j)) := by
  apply toGF_injective hpoly
  rw [toGF_gfAdd, toGF_gfMul hpoly, toGF_powerSum hpoly, toGF_powerSum hpoly, toGF_powerSum hpoly, peelTerms,
    List.map_map, ← List.sum_map_mul_left, ← List.sum_map_add]
  refine congrArg List.sum (List.map_congr_left fun t _ => ?_)
  simp only [Function.comp_apply, toGF_gfMul hpoly, toGF_gfAdd]
  ring

theorem peelLocator_powerSums (x : Byte) (n : Nat) (terms : List (Byte × Byte)) :
    peelLocator poly x (powerSums poly n terms) = powerSums poly (n - 1) (peelTerms poly x terms) := by
  refine List.ext_getElem (by simp [peelLocator, powerSums]) fun j _ _ => ?_
  simp [peelLocator, powerSums, powerSum_peelTerms hpoly]

/-- Peeling a locator removes its term. -/
theorem powerSums_peelTerms_cons (n : Nat) (t : Byte × Byte) (terms : List (Byte × Byte)) :
    powerSums poly n (peelTerms poly t.2 (t :: terms)) = powerSums poly n (peelTerms poly t.2 terms) := by
  refine List.map_congr_left fun j _ => toGF_injective hpoly ?_
  rw [toGF_powerSum hpoly, toGF_powerSum hpoly, peelTerms, List.map_cons, List.map_cons, List.sum_cons,
    toGF_gfMul hpoly, toGF_gfAdd, toGF_add_self, mul_zero, zero_mul, zero_add]
  rfl

/-- R128: errors confined to the locators of the terms explain their sums. -/
theorem foldl_peelLocator_powerSums (n : Nat) (terms : List (Byte × Byte)) :
    (terms.map Prod.snd).foldl (fun sums x => peelLocator poly x sums) (powerSums poly n terms) =
      powerSums poly (n - terms.length) [] := by
  induction hl : terms.length generalizing n terms with
  | zero => rw [List.length_eq_zero_iff.mp hl]; rfl
  | succ l ih =>
    obtain ⟨t, rest, rfl⟩ := List.exists_cons_of_length_eq_add_one hl
    have hrest : (peelTerms poly t.2 rest).length = l := by simpa using hl
    rw [List.map_cons, List.foldl_cons, peelLocator_powerSums hpoly, powerSums_peelTerms_cons hpoly,
      ← map_snd_peelTerms poly t.2, ih _ _ hrest, Nat.sub_sub, Nat.add_comm 1]

/-- The first sum is that of the coefficients; adding all but one of them leaves that one. -/
theorem foldl_gfAdd_powerSums (n : Nat) (t : Byte × Byte) (rest : List (Byte × Byte)) :
    (rest.map Prod.fst).foldl gfAdd ((powerSums poly (n + 1) (t :: rest)).headD 0) = t.1 := by
  have hhead : (powerSums poly (n + 1) (t :: rest)).headD 0 = powerSum poly (t :: rest) 0 := by
    rw [powerSums, List.range_succ_eq_map]; rfl
  apply toGF_injective hpoly
  rw [toGF_foldl_gfAdd, hhead, toGF_powerSum hpoly, List.map_cons, List.sum_cons, List.map_map]
  simp only [pow_zero, mul_one, Function.comp_def]
  linear_combination (rest.map (fun s => toGF poly s.1)).sum * two_eq_zero

end

section

variable {p : Params} (hp : p.wf = true)
include hp

/-- The coefficients of the remaining terms, scaled by the peeling, are scaled back. -/
theorem zipWith_gfInv_peelTerms {x : Byte} {terms : List (Byte × Byte)} (hx : x ∉ terms.map Prod.snd) :
    List.zipWith (fun z x' => gfMul p.gfPoly z (gfInv p.gfPoly (gfAdd x' x)))
      ((peelTerms p.gfPoly x terms).map Prod.fst) (terms.map Prod.snd) = terms.map Prod.fst := by
  rw [peelTerms, List.map_map, List.zipWith_map, List.zipWith_self]
  refine List.map_congr_left fun t ht => gfMul_gfInv_cancel hp (gfAdd_ne_zero ?_) t.1
  rintro rfl
  exact hx (List.mem_map_of_mem ht)

/-- As many sums as there are distinct locators determine the coefficients. -/
theorem solveCoefficients_powerSums {n : Nat} {terms : List (Byte × Byte)}
    (hdistinct : (terms.map Prod.snd).Nodup) (hn : terms.length ≤ n) :
    solveCoefficients p.gfPoly (powerSums p.gfPoly n terms) (terms.map Prod.snd) =
      terms.map Prod.fst := by
  have hpoly := gfPoly_bit8 hp
  induction hl : terms.length generalizing n terms with
  | zero => rw [List.length_eq_zero_iff.mp hl]; rfl
  | succ l ih =>
    obtain ⟨t, rest, rfl⟩ := List.exists_cons_of_length_eq_add_one hl
    obtain ⟨hhead, hrest⟩ := List.nodup_cons.mp hdistinct
    obtain ⟨n, rfl⟩ := Nat.exists_eq_add_of_le' (Nat.one_le_of_lt (hl ▸ hn))
    have hscaled := ih (n := n) (terms := peelTerms p.gfPoly t.2 rest) (by rwa [map_snd_peelTerms])
      (by simpa using hn) (by simpa using hl)
    rw [map_snd_peelTerms] at hscaled
    rw [List.map_cons, solveCoefficients, peelLocator_powerSums hpoly, powerSums_peelTerms_cons hpoly,
      Nat.add_sub_cancel, hscaled, zipWith_gfInv_peelTerms hp hhead, List.map_cons]
    congr 1
    exact foldl_gfAdd_powerSums hpoly n t rest

/-- If the sums vanish, so do the coefficients: terms without coefficients have the same sums. -/
theorem coefficients_eq_zero {n : Nat} {terms : List (Byte × Byte)}
    (hdistinct : (terms.map Prod.snd).Nodup) (hn : terms.length ≤ n)
    (hsums : powerSums p.gfPoly n terms = List.replicate n 0) : ∀ t ∈ terms, t.1 = 0 := by
  have hsnd : (terms.map (fun t => ((0 : Byte), t.2))).map Prod.snd = terms.map Prod.snd := by
    rw [List.map_map]; rfl
  have hsums' : powerSums p.gfPoly n (terms.map (fun t => (0, t.2))) = powerSums p.gfPoly n terms :=
    (powerSums_of_zero (gfPoly_bit8 hp) n (List.forall_mem_map.mpr fun _ _ => rfl)).trans hsums.symm
  have hsolve := solveCoefficients_powerSums hp hdistinct hn
  have hsolve' := solveCoefficients_powerSums hp (n := n) (hsnd.symm ▸ hdistinct) (by rwa [List.length_map])
  rw [hsums', hsnd, hsolve, List.map_map, List.map_inj_left] at hsolve'
  exact hsolve'

end

/-! ### Positions of the errors -/

/-- The positions at which two words of one length differ. -/
def errorPositions (c w : List Byte) : List Nat :=
  (List.range w.length).filter (fun i => c.getD i 0 != w.getD i 0)

theorem mem_errorPositions {c w : List Byte} {i : Nat} :
    i ∈ errorPositions c w ↔ i < w.length ∧ c.getD i 0 ≠ w.getD i 0 := by simp [errorPositions]

theorem errorPositions_nodup (c w : List Byte) : (errorPositions c w).Nodup := List.nodup_range.filter _

theorem length_errorPositions {c w : List Byte} (h : c.length = w.length) :
    (errorPositions c w).length = wordDist c w := by
  have hzip : List.zip c w = (List.range w.length).map (fun i => (c.getD i 0, w.getD i 0)) :=
    List.ext_getElem (by simp [h]) fun i _ hi => by
      have hw : i < w.length := by simpa using hi
      simp [hw, h.symm ▸ hw]
  rw [wordDist, hzip, List.countP_map, List.countP_eq_length_filter]
  rfl

/-- What an error at position `i` adds. -/
def errorValue (c w : List Byte) (i : Nat) : Byte := gfAdd (c.getD i 0) (w.getD i 0)

/-- The term of `S_j(w) - S_j(c)` at position `i`: the error's value scaled by `X_i^FCR`, and `X_i`. -/
def errorTerm (p : Params) (c w : List Byte) (i : Nat) : Byte × Byte :=
  (gfMul p.gfPoly (errorValue c w i) (gfPow p.gfPoly (locator p w.length i) p.fcr),
    locator p w.length i)

/-- The terms at the positions in error. -/
def errorTerms (p : Params) (c w : List Byte) : List (Byte × Byte) :=
  (errorPositions c w).map (errorTerm p c w)

theorem map_snd_errorTerms (p : Params) (c w : List Byte) :
    (errorTerms p c w).map Prod.snd = (errorPositions c w).map (locator p w.length) := by
  rw [errorTerms, List.map_map]; rfl

/-- Positions that contribute nothing may be left out of a sum. -/
theorem sum_map_filter {M : Type} [AddCommMonoid M] {q : Nat → Bool} {f : Nat → M} {l : List Nat}
    (h : ∀ i ∈ l, q i = false → f i = 0) : ((l.filter q).map f).sum = (l.map f).sum := by
  have hrest : ((l.filter (fun i => ¬ q i)).map f).sum = 0 := by
    refine List.sum_eq_zero fun y hy => ?_
    obtain ⟨i, hi, rfl⟩ := List.mem_map.mp hy
    obtain ⟨hl, hq⟩ := List.mem_filter.mp hi
    exact h i hl (by simpa using hq)
  have hsplit := List.sum_map_filter_add_sum_map_filter_not (fun i => q i = true) f l
  simpa only [hrest, add_zero, Bool.decide_eq_true] using hsplit

/-- The value of a word is a sum over its positions. -/
theorem toGF_gfHorner_eq_sum {poly : BitVec 9} (hpoly : poly.getLsbD 8 = true) (x : Byte) (w : List Byte) :
    toGF poly (gfHorner poly x w) =
      ((List.range w.length).map (fun i => toGF poly (w.getD i 0) * toGF poly x ^ (w.length - 1 - i))).sum := by
  induction w with
  | nil => simp
  | cons b w ih =>
    rw [toGF_gfHorner_cons hpoly, ih, List.length_cons, List.range_succ_eq_map, List.map_cons, List.sum_cons,
      List.map_map]
    congr 2
    refine List.map_congr_left fun i _ => ?_
    rw [Function.comp_apply, List.getD_cons_succ, show w.length + 1 - 1 - i.succ = w.length - 1 - i by omega]

section

variable {p : Params} (hp : p.wf = true)
include hp

theorem toGF_codeRoot_pow (len i j : Nat) :
    toGF p.gfPoly (codeRoot p j) ^ (len - 1 - i) =
      toGF p.gfPoly (locator p len i) ^ p.fcr * toGF p.gfPoly (locator p len i) ^ j := by
  rw [codeRoot, locator, toGF_gfPow (gfPoly_bit8 hp), toGF_gfPow (gfPoly_bit8 hp)]
  ring

/-- R128: the syndromes of a word are the power sums of its errors, whatever the codeword. -/
theorem syndromes_eq_powerSums {c w : List Byte} (hlen : c.length = w.length)
    (hc : isCodeword p c = true) :
    syndromes p w = powerSums p.gfPoly p.npar (errorTerms p c w) := by
  have hpoly := gfPoly_bit8 hp
  obtain ⟨-, hzero⟩ := (isCodeword_iff p c).mp hc
  refine List.map_congr_left fun j hj => toGF_injective hpoly ?_
  have hsyn := congrArg (toGF p.gfPoly) (hzero j (List.mem_range.mp hj))
  rw [syndrome, toGF_gfHorner_eq_sum hpoly, hlen, toGF_zero] at hsyn
  rw [syndrome, toGF_gfHorner_eq_sum hpoly, toGF_powerSum hpoly, errorTerms, List.map_map,
    ← zero_add (List.sum _), ← hsyn, ← List.sum_map_add, errorPositions, sum_map_filter]
  · refine congrArg List.sum (List.map_congr_left fun i _ => ?_)
    rw [toGF_codeRoot_pow hp, Function.comp_apply, errorTerm, errorValue, toGF_gfMul hpoly, toGF_gfAdd,
      toGF_gfPow hpoly]
    ring
  · intro i _ heq
    have hsame : c.getD i 0 = w.getD i 0 := by simpa using heq
    rw [Function.comp_apply, errorTerm, errorValue, hsame, toGF_gfMul hpoly, toGF_gfAdd, toGF_add_self,
      zero_mul, zero_mul]

theorem locator_inj {n i j : Nat} (hn : n ≤ 255) (hi : i < n) (hj : j < n)
    (h : locator p n i = locator p n j) : i = j := by
  have := gfPow_alpha_inj hp (by omega) (by omega) h
  omega

theorem nodup_map_locator {n : Nat} (hn : n ≤ 255) {support : List Nat} (hnodup : support.Nodup)
    (hlt : ∀ i ∈ support, i < n) : (support.map (locator p n)).Nodup :=
  hnodup.map_on fun _ hi _ hj => locator_inj hp hn (hlt _ hi) (hlt _ hj)

theorem nodup_map_snd_errorTerms {c w : List Byte} (hw : w.length ≤ 255) :
    ((errorTerms p c w).map Prod.snd).Nodup := by
  rw [map_snd_errorTerms]
  exact nodup_map_locator hp hw (errorPositions_nodup c w) fun i hi => (mem_errorPositions.mp hi).1

theorem locator_ne_zero (n i : Nat) : locator p n i ≠ 0 := gfPow_alpha_ne_zero hp _

end

/-! ### Correction -/

/-- Adding a value at each of some distinct positions changes those bytes only. -/
theorem getElem?_addErrors {support : List Nat} (hnodup : support.Nodup) (f : Nat → Byte) (w : List Byte)
    (k : Nat) :
    (addErrors w (support.map (fun i => (i, f i))))[k]? =
      if k ∈ support then w[k]?.map (gfAdd (f k)) else w[k]? := by
  induction support generalizing w with
  | nil => simp [addErrors]
  | cons i support ih =>
    obtain ⟨hi, hrest⟩ := List.nodup_cons.mp hnodup
    rw [List.map_cons, addErrors, List.foldl_cons, ← addErrors, ih hrest, List.getElem?_modify]
    rcases eq_or_ne i k with rfl | hne
    · simp [hi]
    · simp [hne, hne.symm]

/-- Adding the differences to `w` gives `c`. -/
theorem addErrors_errorPositions {c w : List Byte} (hlen : c.length = w.length) :
    addErrors w ((errorPositions c w).map (fun i => (i, errorValue c w i))) = c := by
  refine List.ext_getElem? fun k => ?_
  rw [getElem?_addErrors (errorPositions_nodup c w) (errorValue c w) w k]
  have hget {x : List Byte} (hx : k < x.length) : x[k]? = some (x.getD k 0) := by simp [hx]
  rcases Nat.lt_or_ge k w.length with hk | hk
  · have hkc : k < c.length := hlen.symm ▸ hk
    rw [hget hk, hget hkc]
    split
    · rw [Option.map_some, errorValue]
      exact congrArg some ((BitVec.xor_assoc _ _ _).trans (by rw [BitVec.xor_self, BitVec.xor_zero]))
    · next hsame => rw [not_not.mp fun hne => hsame (mem_errorPositions.mpr ⟨hk, hne⟩)]
  · rw [if_neg fun hmem => absurd (mem_errorPositions.mp hmem).1 (Nat.not_lt.mpr hk),
      List.getElem?_eq_none hk, List.getElem?_eq_none (hlen ▸ hk)]

section

variable {p : Params} (hp : p.wf = true) {c w : List Byte} (hlen : c.length = w.length)
  (hc : isCodeword p c = true)
include hp hlen hc

/-- The right positions explain the syndromes. -/
theorem supportExplains_errorPositions : supportExplains p w (errorPositions c w) = true := by
  have hpeel := foldl_peelLocator_powerSums (gfPoly_bit8 hp) p.npar (errorTerms p c w)
  rw [← syndromes_eq_powerSums hp hlen hc, map_snd_errorTerms, List.foldl_map] at hpeel
  rw [supportExplains, hpeel, powerSums_of_zero (gfPoly_bit8 hp) _ (List.forall_mem_nil _), allZero_iff]
  exact fun _ => List.eq_of_mem_replicate

variable (hw : w.length ≤ 255)
include hw

/-- At the right positions the syndromes determine the error values, when there are enough of them. -/
theorem solveCoefficients_syndromes (hdist : wordDist c w ≤ p.npar) :
    solveCoefficients p.gfPoly (syndromes p w) ((errorPositions c w).map (locator p w.length)) =
      (errorTerms p c w).map Prod.fst := by
  rw [syndromes_eq_powerSums hp hlen hc, ← map_snd_errorTerms]
  refine solveCoefficients_powerSums hp (nodup_map_snd_errorTerms hp hw) ?_
  rwa [errorTerms, List.length_map, length_errorPositions hlen]

/-- So the search corrects the word at these positions to the codeword. -/
theorem correctAt_errorPositions (hdist : wordDist c w ≤ p.npar) :
    correctAt p w (errorPositions c w) = c := by
  have hvalues : List.zipWith (fun y x => gfMul p.gfPoly y (gfInv p.gfPoly (gfPow p.gfPoly x p.fcr)))
      ((errorTerms p c w).map Prod.fst) ((errorPositions c w).map (locator p w.length)) =
      (errorPositions c w).map (errorValue c w) := by
    rw [errorTerms, List.map_map, List.zipWith_map, List.zipWith_self]
    exact List.map_congr_left fun i _ => gfMul_gfInv_cancel hp
      (gfPow_ne_zero hp (locator_ne_zero hp _ _) _) _
  have hzip : List.zip (errorPositions c w) ((errorPositions c w).map (errorValue c w)) =
      (errorPositions c w).map (fun i => (i, errorValue c w i)) := by
    simpa using List.zip_map' (f := id) (g := errorValue c w) (l := errorPositions c w)
  rw [correctAt, solveCoefficients_syndromes hp hlen hc hw hdist, hvalues, hzip,
    addErrors_errorPositions hlen]

end

/-! ### Distances -/

theorem wordDist_comm (c w : List Byte) : wordDist c w = wordDist w c := by
  rw [wordDist, wordDist, ← List.zip_swap, List.countP_map]
  refine List.countP_congr fun x _ => ?_
  simp [bne_comm]

theorem wordDist_cons (a b : Byte) (c w : List Byte) :
    wordDist (a :: c) (b :: w) = wordDist c w + if a = b then 0 else 1 := by
  rw [wordDist, wordDist, List.zip_cons_cons, List.countP_cons]
  rcases eq_or_ne a b with rfl | hab
  · simp
  · simp [hab]

/-- The triangle inequality, through `w`. -/
theorem wordDist_le_add {c d w : List Byte} (hc : c.length = w.length) (hd : d.length = w.length) :
    wordDist c d ≤ wordDist c w + wordDist d w := by
  induction w generalizing c d with
  | nil => rw [List.length_eq_zero_iff.mp hc]; exact Nat.zero_le _
  | cons b w ih =>
    obtain ⟨a, c, rfl⟩ := List.exists_cons_of_length_eq_add_one hc
    obtain ⟨e, d, rfl⟩ := List.exists_cons_of_length_eq_add_one hd
    have hrest := ih (Nat.succ.inj hc) (Nat.succ.inj hd)
    rw [wordDist_cons, wordDist_cons, wordDist_cons]
    rcases eq_or_ne a b with rfl | hab
    · rcases eq_or_ne e a with rfl | hea
      · simpa using hrest
      · rw [if_neg hea]; split_ifs <;> omega
    · rw [if_neg hab]; split_ifs <;> omega

/-- A common beginning does not count. -/
theorem wordDist_append_left (m c d : List Byte) : wordDist (m ++ c) (m ++ d) = wordDist c d := by
  induction m with
  | nil => rfl
  | cons a m ih => rw [List.cons_append, List.cons_append, wordDist_cons, ih, if_pos rfl, Nat.add_zero]

theorem wordDist_le_length_right (c w : List Byte) : wordDist c w ≤ w.length :=
  List.countP_le_length.trans (by rw [List.length_zip]; exact Nat.min_le_right _ _)

section

variable {p : Params} (hp : p.wf = true) {c d w : List Byte}
include hp

/-- R129: of two codewords at a distance of at most `NPAR` the error values are determined by the syndromes
of one, which vanish. -/
theorem eq_of_wordDist_le (hlen : c.length = d.length) (hd : d.length ≤ 255)
    (hcc : isCodeword p c = true) (hcd : isCodeword p d = true) (hdist : wordDist c d ≤ p.npar) : c = d := by
  obtain ⟨-, hzero⟩ := (isCodeword_iff p d).mp hcd
  have hsums : powerSums p.gfPoly p.npar (errorTerms p c d) = List.replicate p.npar 0 := by
    rw [← syndromes_eq_powerSums hp hlen hcc]
    exact List.eq_replicate_iff.mpr ⟨by simp [syndromes], by simpa [syndromes] using hzero⟩
  have hnone := coefficients_eq_zero hp (nodup_map_snd_errorTerms hp hd)
    (by rwa [errorTerms, List.length_map, length_errorPositions hlen]) hsums
  have hsame : ∀ i < d.length, c.getD i 0 = d.getD i 0 := by
    intro i hi
    by_contra hne
    refine gfMul_ne_zero hp (gfAdd_ne_zero hne) (gfPow_ne_zero hp (locator_ne_zero hp d.length i) p.fcr) ?_
    exact hnone _ (List.mem_map_of_mem (mem_errorPositions.mpr ⟨hi, hne⟩))
  refine List.ext_getElem hlen fun i hi hi' => ?_
  rw [← List.getD_eq_getElem c 0 hi, ← List.getD_eq_getElem d 0 hi', hsame i hi']

/-- R129: two codewords are not both near one word. -/
theorem eq_of_near (hw : w.length ≤ 255) (hclen : c.length = w.length) (hdlen : d.length = w.length)
    (hcc : isCodeword p c = true) (hcd : isCodeword p d = true)
    (hdist : wordDist c w + wordDist d w ≤ p.npar) : c = d :=
  eq_of_wordDist_le hp (hclen.trans hdlen.symm) (hdlen ▸ hw) hcc hcd
    ((wordDist_le_add hclen hdlen).trans hdist)

/-- R128: at most one codeword is within the correction bound. -/
theorem IsCorrection.unique (hw : w.length ≤ 255) (hc : IsCorrection p w c) (hd : IsCorrection p w d) :
    c = d := by
  obtain ⟨hclen, hcc, hcdist⟩ := hc
  obtain ⟨hdlen, hcd, hddist⟩ := hd
  refine eq_of_near hp hw hclen hdlen hcc hcd ?_
  rw [tCorr] at hcdist hddist
  omega

/-- R128: the search finds the codeword. -/
theorem nearestCodeword_eq_some (hw : w.length ≤ 255) (hc : IsCorrection p w c) :
    nearestCodeword p w = some c := by
  obtain ⟨hlen, hcode, hdist⟩ := hc
  have hnpar : wordDist c w ≤ p.npar := hdist.trans (Nat.div_le_self _ _)
  have hhit : codewordAt p w (errorPositions c w) = some c := by
    rw [codewordAt, if_pos (supportExplains_errorPositions hp hlen hcode),
      correctAt_errorPositions hp hlen hcode hw hnpar]
    simp [hcode, hdist]
  have htried : errorPositions c w ∈ errorSupports (tCorr p) w.length :=
    mem_errorSupports.mpr ⟨List.filter_sublist, (length_errorPositions hlen).symm ▸ hdist⟩
  cases hfound : nearestCodeword p w with
  | none => exact absurd hhit (by rw [List.findSome?_eq_none_iff.mp hfound _ htried]; nofun)
  | some d => rw [IsCorrection.unique hp hw (nearestCodeword_some hfound) ⟨hlen, hcode, hdist⟩]

end

theorem lengthLegal_iff (p : Params) (n : Nat) :
    lengthLegal p n = true ↔ p.npar < n ∧ n ≤ p.kMsg + p.npar := by
  rw [lengthLegal, Bool.and_eq_true, decide_eq_true_eq, decide_eq_true_eq]

section

variable {p : Params} {w : List Byte}

theorem rsDecode_of_illegal_length (h : w.length ≤ p.npar ∨ p.kMsg + p.npar < w.length) :
    rsDecode p w = .error .eLength := by
  have hillegal : ¬ lengthLegal p w.length = true := by rw [lengthLegal_iff]; omega
  exact if_neg hillegal

variable (hp : p.wf = true) (hw : lengthLegal p w.length = true)
include hw

theorem rsDecode_of_no_correction (h : ¬ ∃ c, IsCorrection p w c) :
    rsDecode p w = .error .uncorrectable := by
  rcases rsDecode_cases p w with ⟨hl, -⟩ | ⟨-, -, hr⟩ | ⟨-, c, hc, -⟩
  · rw [hl] at hw; cases hw
  · exact hr
  · exact absurd ⟨c, nearestCodeword_some hc⟩ h

include hp

theorem length_le_255 : w.length ≤ 255 := ((lengthLegal_iff p _).mp hw).2.trans (kMsg_add_npar_le hp)

theorem rsDecode_of_correction {c : List Byte} (hc : IsCorrection p w c) :
    rsDecode p w = .ok (c.take (w.length - p.npar)) := by
  rw [rsDecode, if_pos hw, nearestCodeword_eq_some hp (length_le_255 hp hw) hc]

end

/-- R139 (b): `rs_decode` undoes `encode` up to `T_CORR` errors. -/
theorem rsDecode_of_near_encode {p : Params} (hp : p.wf = true) {m w : List Byte} (hm : 1 ≤ m.length)
    (hk : m.length ≤ p.kMsg) (hlen : w.length = (encode p m).length)
    (hdist : wordDist w (encode p m) ≤ tCorr p) : rsDecode p w = .ok m := by
  have henc := length_encode (npar_pos hp) m
  have hlegal : lengthLegal p w.length = true := by rw [lengthLegal_iff]; omega
  have hcorr : IsCorrection p w (encode p m) :=
    ⟨hlen.symm, isCodeword_encode hp hm, wordDist_comm w _ ▸ hdist⟩
  rw [rsDecode_of_correction hp hlegal hcorr, hlen, henc, Nat.add_sub_cancel, encode, List.take_left]

end Sys2Proof.Machine

namespace Sys2Proof

open Sys2Proof.Machine

/-- Settles O51: codewords at a distance of at most `NPAR` are equal. -/
theorem codewordsAreFarApart : Obligations.CodewordsAreFarApart := by
  intro p c d hp hlegal hlen hc hd hne
  by_contra hnear
  have hdist : wordDist c d ≤ p.npar := by omega
  exact hne (eq_of_wordDist_le hp hlen.symm (hlen ▸ length_le_255 hp hlegal) hc hd hdist)

/-- Settles O50: two codewords with one message differ in the `NPAR` bytes of parity at most. -/
theorem encodeGivesTheOnlyCodeword : Obligations.EncodeGivesTheOnlyCodeword := by
  intro p m hp hm hk
  have henc := length_encode (npar_pos hp) m
  have hcode := isCodeword_encode hp hm
  refine ⟨henc, List.prefix_append m _, hcode, ?_⟩
  rintro c hlen ⟨r, rfl⟩ hc
  refine eq_of_wordDist_le hp (hlen.trans henc.symm) ?_ hc hcode ?_
  · have := kMsg_add_npar_le hp
    omega
  · rw [encode, wordDist_append_left]
    exact (wordDist_le_length_right _ _).trans (length_parity (npar_pos hp) m).le

/-- Settles O52: the positions at which a codeword within `T_CORR` differs are among those tried, and they
correct the word to it. -/
theorem rsDecodeMeetsItsContract : Obligations.RsDecodeMeetsItsContract := by
  refine fun p w hp => ⟨rsDecode_of_illegal_length, fun hlow hhigh => ?_⟩
  have hlegal := (lengthLegal_iff p w.length).mpr ⟨hlow, hhigh⟩
  exact ⟨fun c => rsDecode_of_correction hp hlegal, rsDecode_of_no_correction hlegal⟩

/-- Settles O53: a second codeword would be within `NPAR` of the first. -/
theorem detectedErrorsAreUncorrectable : Obligations.DetectedErrorsAreUncorrectable := by
  intro p w c hp hlegal hlen hc hfar hnear
  refine rsDecode_of_no_correction hlegal ?_
  rintro ⟨d, hdlen, hd, hddist⟩
  have hsum : wordDist c w + wordDist d w ≤ p.npar := by
    rw [tCorr] at hfar hnear hddist
    omega
  obtain rfl := eq_of_near hp (length_le_255 hp hlegal) hlen hdlen hc hd hsum
  exact absurd hddist (Nat.not_le.mpr hfar)

/-- Settles O54: the encoded message is the one codeword within `T_CORR`. -/
theorem decodingInvertsEncoding : Obligations.DecodingInvertsEncoding :=
  fun _ _ _ hp => rsDecode_of_near_encode hp

end Sys2Proof
end

section
/-! The FEC commands: DECODE recovers a sent message, the reference algorithm answers only what step 5 has
checked, and what a command reports depends on its operands. -/

namespace Sys2Proof.Machine

/-! ### The reference algorithm -/

theorem wordDist_self (w : List Byte) : wordDist w w = 0 := by
  induction w with
  | nil => rfl
  | cons a w ih => rw [wordDist_cons, ih, if_pos rfl]

/-- A word of legal length whose syndromes vanish is its own correction. -/
theorem isCorrection_self {p : Params} {w : List Byte} (hlen : lengthLegal p w.length = true)
    (hsyn : allZero (syndromes p w) = true) : IsCorrection p w w := by
  have hlong : p.npar < w.length := ((lengthLegal_iff p _).mp hlen).1
  exact ⟨rfl, by simp [isCodeword, hlong, hsyn], (wordDist_self w).symm ▸ Nat.zero_le _⟩

theorem length_referenceCorrect {p : Params} {w c : List Byte} (h : referenceCorrect p w = some c) :
    c.length = w.length := by
  unfold referenceCorrect at h
  dsimp only at h
  split at h
  · cases h
  · obtain ⟨errors, -, rfl⟩ := Option.map_eq_some_iff.mp h
    exact length_addErrors _ _

/-- R130: a message is returned at step 1 or after the check of step 5. -/
theorem isCorrection_of_referenceDecode {p : Params} {w m : List Byte} (h : referenceDecode p w = .ok m) :
    lengthLegal p w.length = true ∧ ∃ c, IsCorrection p w c ∧ m = c.take (w.length - p.npar) := by
  unfold referenceDecode at h
  split at h
  · cases h
  · next hlen =>
    have hlen : lengthLegal p w.length = true := by simpa using hlen
    split at h
    · next hsyn =>
      cases h
      exact ⟨hlen, w, isCorrection_self hlen hsyn, rfl⟩
    · split at h
      · cases h
      · next c hc =>
        split at h
        · next hchecked =>
          cases h
          obtain ⟨hcode, hdist⟩ := Bool.and_eq_true_iff.mp hchecked
          exact ⟨hlen, c, ⟨length_referenceCorrect hc, hcode, of_decide_eq_true hdist⟩, rfl⟩
        · cases h

/-! ### The filter's operands -/

/-- R162: only the compared bytes of `FX` matter. -/
theorem filterPass_congr {f : List Byte} {len off : Nat} {expected expected' : Nat → Byte}
    (h : ∀ i < len, expected i = expected' i) :
    filterPass f len off expected = filterPass f len off expected' := by
  have hall : (List.range len).all (fun i => f[off + i]? == some (expected i)) =
      (List.range len).all (fun i => f[off + i]? == some (expected' i)) := by
    rw [Bool.eq_iff_iff, List.all_eq_true, List.all_eq_true]
    exact forall₂_congr fun i hi => by rw [h i (List.mem_range.mp hi)]
  rw [filterPass, filterPass, hall]

/-! ### How a decode ends -/

/-- What a decode leaves in `WB` and reports does not depend on the state it ends in. -/
theorem finishDecode_congr (r : Except ResultCode (List Byte)) (s t : State) :
    (finishDecode r s).wb = (finishDecode r t).wb ∧ (finishDecode r s).result = (finishDecode r t).result := by
  cases r with
  | ok m => exact ⟨rfl, rfl⟩
  | error c => exact ⟨rfl, rfl⟩

/-- A decode overwrites what an earlier stage has left in `WB` and `RESULT`. -/
theorem finishDecode_report_setWork (r : Except ResultCode (List Byte)) (c : ResultCode) (d : List Byte)
    (s : State) : finishDecode r (report c (setWork d s)) = finishDecode r s := by
  cases r with
  | ok m => rfl
  | error c' => rfl

end Sys2Proof.Machine

namespace Sys2Proof

open Sys2Proof.Machine

/-- Settles O55: `deint` undoes `inter`, `strip` cuts before the sentinel, and the rest is the codeword up to
`T_CORR` errors. -/
theorem decodeDeliversTheSentMessage : Obligations.DecodeDeliversTheSentMessage := by
  intro s m w fill hp hm hk hlen hdist hframe
  obtain ⟨hrows, hcols, -⟩ := (Params.wf_iff s.params).mp hp
  have hB : 0 < s.params.rows * s.params.cols := Nat.mul_pos hrows hcols
  have hword : strip (deint s.params.rows s.params.cols s.ib) = w := by
    rcases hframe with ⟨hfill, hib⟩ | ⟨hw, hib⟩
    · rw [hib, deint_inter hB]
      exact strip_append_sentinel w hfill
    · rw [hib, deint_inter hB]
      exact strip_of_not_mem hw
  exact exec_decode_ok (hword.symm ▸ rsDecode_of_near_encode hp hm hk hlen hdist)

/-- Settles O56: step 5 checks what steps 2 to 4 have corrected. -/
theorem referenceDecoderIsSound : Obligations.ReferenceDecoderIsSound :=
  fun _ _ _ => isCorrection_of_referenceDecode

/-- Settles O11: RSDEC ends as `rs_decode` answers on `WB`. -/
theorem rsdecCompletes : Obligations.RsdecCompletes := fun _ =>
  ⟨fun _ => exec_rsdec_ok, fun _ => exec_rsdec_error⟩

/-- Settles O12: DECODE ends as `rs_decode` answers on the de-interleaved and stripped frame. -/
theorem decodeCompletes : Obligations.DecodeCompletes := fun _ =>
  ⟨fun _ => exec_decode_ok, fun _ => exec_decode_error⟩

/-- Settles O13: the three stages compute the functions that DECODE composes, and the last overwrites what
the first two leave in `WB` and `RESULT`. -/
theorem decodeEqualsTheThreeStages : Obligations.DecodeEqualsTheThreeStages := by
  refine fun s => ⟨_, _, _, rfl, rfl, rfl, ?_⟩
  rw [finishDecode_report_setWork, finishDecode_report_setWork]
  rfl

/-- Settles O20: each command is a function of its operands and the parameters. -/
theorem commandsDependOnTheirOperandsOnly : Obligations.CommandsDependOnTheirOperandsOnly := by
  intro s t hp
  refine ⟨fun s' t' hs ht hib => ?deint, fun s' t' hs ht hwb => ?strip, fun s' t' hs ht hwb => ?rsdec,
    fun s' t' hs ht hib => ?decode, fun s' t' hs ht hwb hlen hoff hfx => ?filt⟩ <;> cases hs <;> cases ht
  case deint => exact ⟨by simp [frameOperand, hp, hib], rfl⟩
  case strip => exact ⟨by simp [workOperand, hwb], rfl⟩
  case rsdec =>
    rw [workOperand, workOperand, hp, hwb]
    exact finishDecode_congr _ s t
  case decode =>
    rw [frameOperand, frameOperand, hp, hib]
    exact finishDecode_congr _ s t
  case filt =>
    have hpass : filterPass (workOperand s) (lenOperand s) (offOperand s) (fxOperand s) =
        filterPass (workOperand t) (lenOperand t) (offOperand t) (fxOperand t) :=
      (filterPass_congr (expected' := fxOperand t) hfx).trans
        (by simp only [workOperand, lenOperand, offOperand, hwb, hlen, hoff])
    rw [report_result, report_result, hpass]

end Sys2Proof
end

section

namespace Sys2Proof.Machine

/-! ### The clauses of `filter_pass` -/

@[simp] theorem beginsWithMarker_iff_prefix (f : List Byte) : beginsWithMarker f = true ↔ testMarker <+: f := by
  rw [beginsWithMarker, beq_iff_eq, List.prefix_iff_eq_take]
  exact eq_comm

/-- R160: a frame of fewer than 4 bytes cannot begin with the marker. -/
theorem testMarker_prefix_iff (f : List Byte) :
    testMarker <+: f ↔ 4 ≤ f.length ∧ f.take 4 = testMarker :=
  ⟨fun h => ⟨h.length_le, (List.prefix_iff_eq_take.mp h).symm⟩,
    fun ⟨_, h⟩ => List.prefix_iff_eq_take.mpr h.symm⟩

/-- R160: the frame holds every expected byte, each at a position inside it. -/
def HoldsExpected (f : List Byte) (len off : Nat) (expected : Nat → Byte) : Prop :=
  ∀ i < len, f[off + i]? = some (expected i)

/-- R160: the two early answers and the comparison. -/
theorem filterPass_iff (f : List Byte) (len off : Nat) (expected : Nat → Byte) :
    filterPass f len off expected = true ↔
      len = 0 ∨ testMarker <+: f ∨ HoldsExpected f len off expected := by
  by_cases hlen : len = 0
  · simp [filterPass, hlen]
  by_cases hmarker : testMarker <+: f
  · simp [filterPass, hmarker]
  · simp [filterPass, HoldsExpected, hlen, hmarker]

theorem HoldsExpected.lt_length {f : List Byte} {len off : Nat} {expected : Nat → Byte}
    (h : HoldsExpected f len off expected) {i : Nat} (hi : i < len) : off + i < f.length :=
  (List.getElem?_eq_some_iff.mp (h i hi)).1

/-- A position beyond the frame counts as a difference (R160, D12). -/
theorem holdsExpected_iff (f : List Byte) (len off : Nat) (expected : Nat → Byte) :
    HoldsExpected f len off expected ↔
      ∀ i < len, off + i < f.length ∧ f[off + i]? = some (expected i) :=
  ⟨fun h i hi => ⟨h.lt_length hi, h i hi⟩, fun h i hi => (h i hi).2⟩

/-- The last expected byte bounds the length of the frame. -/
theorem HoldsExpected.add_le_length {f : List Byte} {len off : Nat} {expected : Nat → Byte}
    (h : HoldsExpected f len off expected) (hlen : 0 < len) : off + len ≤ f.length := by
  have hlast : off + (len - 1) < f.length := h.lt_length (Nat.sub_lt hlen Nat.one_pos)
  omega

end Sys2Proof.Machine

namespace Sys2Proof

open Sys2Proof.Machine

/-- Settles O57: the three clauses, with the marker as the first four bytes and each position inside the
frame. -/
theorem filterPassIsThePredicate : Obligations.FilterPassIsThePredicate := by
  intro f len off expected
  rw [filterPass_iff, testMarker_prefix_iff, holdsExpected_iff, testMarker]

/-- Settles O58: each property is a reading of the three clauses. -/
theorem filterProperties : Obligations.FilterProperties := by
  refine ⟨fun rest len off expected => ?marker, fun f off expected => ?empty,
    fun f len off expected hpass hlen hmarker => ?shows⟩
  case marker => exact (filterPass_iff ..).mpr (.inr (.inl (List.prefix_append testMarker rest)))
  case empty => exact (filterPass_iff ..).mpr (.inl rfl)
  case shows =>
    have hholds : HoldsExpected f len off expected :=
      (((filterPass_iff ..).mp hpass).resolve_left hlen.ne').resolve_left hmarker
    exact ⟨hholds.add_le_length hlen, hholds⟩

/-- Settles O14: FILT reports what `filter_pass` answers on its operands, and `report` writes RESULT only. -/
theorem filtReportsThePredicate : Obligations.FiltReportsThePredicate := fun _ =>
  ⟨exec_filt_pass, exec_filt_reject⟩

end Sys2Proof
end

section
/-! The frame tracker (43_tracker.md): what TRK stores and what keeps it, that an event does not meet a data
command, and that of two TRK with equal metrics the second finds the first one's triple. -/

namespace Sys2Proof.Machine

variable {h : Input} {i : Instr} {s t u : State}

/-! ### TRK -/

/-- R180: the condition on which TRK reports a duplicate, register by register. -/
theorem trk_duplicate_iff_fields (s : State) : (s.prevValid && metricsEqual s.met s.prev) = true ↔
    s.prevValid = true ∧ s.met.rssi = s.prev.rssi ∧ s.met.snr = s.prev.snr ∧ s.met.ferr = s.prev.ferr := by
  simp only [metricsEqual, Bool.and_eq_true, beq_iff_eq, and_assoc]

/-- R181: whatever TRK reports, the metrics are in the store after it. -/
theorem exec_trk_stores (he : exec .trk s = .next u) : u.prevValid = true ∧ u.prev = s.met := by
  cases hdup : s.prevValid && metricsEqual s.met s.prev with
  | true =>
    obtain ⟨hvalid, hmet⟩ := (trk_duplicate_iff s).mp hdup
    cases he.symm.trans (exec_trk_duplicate hdup)
    exact ⟨hvalid, hmet.symm⟩
  | false =>
    cases he.symm.trans (exec_trk_new hdup)
    exact ⟨rfl, rfl⟩

/-! ### What keeps the store -/

/-- R38, R181: a valid store changes only by a reset or by a TRK with other metrics. -/
theorem Effect.store (he : Effect h s u) (hvalid : s.prevValid = true) (hreset : ¬ h.resets)
    (htrk : h.runs .trk → s.met = s.prev) : u.prevValid = true ∧ u.prev = s.prev := by
  cases he with
  | track hr hnew =>
    exact absurd ((trk_duplicate_iff s).mpr ⟨hvalid, htrk hr⟩) (Bool.eq_false_iff.mp hnew)
  | reset hr => exact absurd hr hreset
  | _ => exact ⟨hvalid, rfl⟩

theorem EventFrame.met (hf : EventFrame h s t) : t.met = s.met := by cases hf; rfl

theorem EventFrame.prev (hf : EventFrame h s t) : t.prev = s.prev := by cases hf; rfl

theorem EventFrame.prevValid (hf : EventFrame h s t) : t.prevValid = s.prevValid := by cases hf; rfl

theorem EventFrame.result (hf : EventFrame h s t) : t.result = s.result := by cases hf; rfl

/-! ### A step that runs a command, and runs of steps -/

/-- A step whose input writes the command `i` runs it, up to an event and bookkeeping on either side. -/
theorem step_runs {rest : List Input} (hs : s.inputs = h :: rest) (hr : h.runs i)
    (ht : step s = .next t) :
    ∃ s₀ u, EventFrame h s s₀ ∧ exec i s₀ = .next u ∧ EventFrame h u t := by
  have hexec (v : State) : transact exec (.w4 addrCmd (encodeWord i)) v = exec i (respond .okay v) :=
    writeCmd_command exec v (decodeWord_encodeWord i)
  rcases hr with rfl | rfl
  · rw [step_transaction s hs, hexec] at ht
    exact ⟨_, t, .environment, ht, .environment⟩
  · have hi : (Input.irqWith (.w4 addrCmd (encodeWord i))).interrupts := .inr ⟨_, rfl⟩
    rw [step_irqWith s hs] at ht
    rcases coincide_cases exec (.w4 addrCmd (encodeWord i)) (setInputs rest s) with hc | hc <;>
      rw [hc, hexec] at ht
    · exact ⟨_, t, (EventFrame.environment.trans (.frameIrq hi _)).trans .environment, ht, .environment⟩
    · obtain ⟨u, hu, rfl⟩ := thenIrq_eq_next ht
      exact ⟨_, u, .environment, hu, .frameIrq hi u⟩

/-- A step consumes the first pending input, if there is one. -/
theorem step_inputs (ht : step s = .next t) : t.inputs = s.inputs.tail := by
  cases hin : s.inputs with
  | nil => cases (step_idle s hin).symm.trans ht; exact hin
  | cons h rest =>
    cases h with
    | transaction tr =>
      obtain ⟨u, r, hu, ha⟩ := transact_answered tr (setInputs rest s)
      cases ((step_transaction s hin).trans hu).symm.trans ht
      exact ha.inputs
    | frameIrq => cases (step_frameIrq s hin).symm.trans ht; exact frameIrq_inputs _
    | reset => cases (step_reset s hin).symm.trans ht; rfl
    | irqWith tr =>
      obtain ⟨u, r, hu, ha⟩ := coincide_answered tr (setInputs rest s)
      cases ((step_irqWith s hin).trans hu).symm.trans ht
      exact ha.inputs.trans (frameIrq_inputs _)
    | resetWith tr => cases (step_resetWith s hin).symm.trans ht; rfl

theorem core_run_succ {n : Nat} (hrun : core.run (n + 1) s = .next t) :
    ∃ u, step s = .next u ∧ core.run n u = .next t := by
  have hstep : core.step s = step s := rfl
  simp only [Host.Core.run, hstep] at hrun
  cases hs : step s with
  | next u => rw [hs] at hrun; exact ⟨u, rfl, hrun⟩
  | fault r => cases r
  | refused r => rw [hs] at hrun; cases hrun

/-- A property that every step on an allowed input keeps is kept by every run on allowed inputs. -/
theorem core_run_keeps {P : State → Prop} {allowed : Input → Prop}
    (hstep : ∀ s t, (∀ h ∈ s.inputs.head?, allowed h) → step s = .next t → P s → P t) {n : Nat}
    (hallowed : ∀ h ∈ s.inputs.take n, allowed h) (hrun : core.run n s = .next t) (hs : P s) : P t := by
  induction n generalizing s with
  | zero => cases hrun; exact hs
  | succ n ih =>
    obtain ⟨u, hu, hrest⟩ := core_run_succ hrun
    have hhead : ∀ h ∈ s.inputs.head?, allowed h := fun h hh =>
      hallowed h (List.mem_of_mem_head? (List.head?_take.trans hh))
    have htail : ∀ h ∈ u.inputs.take n, allowed h := fun h hh => hallowed h <| by
      rw [step_inputs hu, ← Nat.add_sub_cancel n 1, ← List.tail_take_eq_take_tail] at hh
      exact List.mem_of_mem_tail hh
    exact ih htail hrest (hstep s u hhead hu hs)

/-! ### An event and the data commands -/

/-- R182: an event as one write of the two flags. -/
theorem frameIrq_eq_setFlags (s : State) : frameIrq s =
    setDupSuspected (s.dupSuspected || (s.irqEn && s.frameReady)) (setFrameReady (s.frameReady || s.irqEn) s) := by
  cases he : s.irqEn with
  | false => rw [frameIrq_disabled s he, Bool.false_and, Bool.or_false, Bool.or_false]; rfl
  | true =>
    cases hr : s.frameReady with
    | false => rw [frameIrq_first s he hr, Bool.true_and, Bool.or_false]; rfl
    | true => rw [frameIrq_second s he hr, Bool.true_and, Bool.or_true, Bool.or_true, ← hr]; rfl

theorem finishDecode_setFlags (r : Except ResultCode (List Byte)) (ready dup : Bool) (s : State) :
    finishDecode r (setDupSuspected dup (setFrameReady ready s)) =
      setDupSuspected dup (setFrameReady ready (finishDecode r s)) := by
  cases r <;> rfl

/-- R83: the flags that an event sets are no operands of a data command. -/
theorem exec_setFlags (hb : i ≠ .begin_) (hr : i ≠ .rearm) (he : exec i s = .next t) (ready dup : Bool) :
    exec i (setDupSuspected dup (setFrameReady ready s)) =
      .next (setDupSuspected dup (setFrameReady ready t)) := by
  cases i with
  | begin_ => exact absurd rfl hb
  | rearm => exact absurd rfl hr
  | trk =>
    cases hdup : s.prevValid && metricsEqual s.met s.prev with
    | true =>
      cases he.symm.trans (exec_trk_duplicate hdup)
      exact exec_trk_duplicate (s := setDupSuspected dup (setFrameReady ready s)) hdup
    | false =>
      cases he.symm.trans (exec_trk_new hdup)
      exact exec_trk_new (s := setDupSuspected dup (setFrameReady ready s)) hdup
  | rsdec | decode =>
    cases he
    exact congrArg Host.Outcome.next (finishDecode_setFlags _ ready dup s)
  | _ => cases he; rfl

end Sys2Proof.Machine

namespace Sys2Proof

open Sys2Proof.Machine

/-- Settles O59: an event and the environment's fields touch neither the store nor the metrics, and the
input's effect keeps a valid store. -/
theorem trackerStoreIsKept : Obligations.TrackerStoreIsKept := by
  rintro s t m hvalid rfl hhead ht
  cases hin : s.inputs with
  | nil => cases (step_idle s hin).symm.trans ht; exact ⟨hvalid, rfl⟩
  | cons h rest =>
    obtain ⟨hreset, htrk⟩ := hhead h (by rw [hin]; rfl)
    obtain ⟨s₀, u, hpre, he, hpost⟩ := step_effect hin ht
    obtain ⟨hvalid', hprev'⟩ := he.store (hpre.prevValid.trans hvalid) hreset
      fun hr => hpre.met.trans ((htrk hr).trans hpre.prev.symm)
    exact ⟨hpost.prevValid.trans hvalid', hpost.prev.trans (hprev'.trans hpre.prev)⟩

/-- Settles O25: the first TRK leaves its metrics in the store, every step between keeps them there, and the
second TRK finds them. -/
theorem secondTrackOfEqualMetricsIsSpurious : Obligations.SecondTrackOfEqualMetricsIsSpurious := by
  intro n s s1 s2 s3 h h' rest rest' hs hr hstep hbetween hrun hs2 hr' hmet hstep'
  have hs1 : s1.prevValid = true ∧ s1.prev = s.met := by
    obtain ⟨s₀, u, hpre, he, hpost⟩ := step_runs hs hr hstep
    obtain ⟨hvalid, hprev⟩ := exec_trk_stores he
    exact ⟨hpost.prevValid.trans hvalid, hpost.prev.trans (hprev.trans hpre.met)⟩
  have hkept : s2.prevValid = true ∧ s2.prev = s.met := by
    have hinputs : s1.inputs = rest := by rw [step_inputs hstep, hs, List.tail_cons]
    refine core_run_keeps (P := fun v => v.prevValid = true ∧ v.prev = s.met)
      (fun v w hallowed hw ⟨hvalid, hprev⟩ => ?_) (hinputs ▸ hbetween) hrun hs1
    refine trackerStoreIsKept v w s.met hvalid hprev (fun k hk => ?_) hw
    obtain ⟨htrk, hreset⟩ := hallowed k hk
    exact ⟨hreset, fun hr => absurd hr htrk⟩
  obtain ⟨hvalid, hprev⟩ := hkept
  obtain ⟨s₀, u, hpre, he, hpost⟩ := step_runs hs2 hr' hstep'
  have hdup : (s₀.prevValid && metricsEqual s₀.met s₀.prev) = true := (trk_duplicate_iff s₀).mpr
    ⟨hpre.prevValid.trans hvalid, by rw [hpre.met, hpre.prev, hmet, hprev]⟩
  cases he.symm.trans (exec_trk_duplicate hdup)
  exact hpost.result

/-- Settles O23: an event is a write of two flags that a data command neither reads nor writes, and the
values written depend on flags that the command leaves alone. -/
theorem eventsCommuteWithDataCommands : Obligations.EventsCommuteWithDataCommands := by
  intro i s t hb hr he
  have hf := exec_frame he
  have hirq : t.irqEn = s.irqEn := hf.irqEn (by simp [hb, hr])
  rw [frameIrq_eq_setFlags s, frameIrq_eq_setFlags t, hf.frameReady hb, hf.dupSuspected hr, hirq]
  exact exec_setFlags hb hr he _ _

/-- Settles O15: TRK branches on the comparison of the three registers. -/
theorem trkDetectsDuplicates : Obligations.TrkDetectsDuplicates := fun s =>
  ⟨fun hdup => exec_trk_duplicate ((trk_duplicate_iff_fields s).mpr hdup),
    fun hnew => exec_trk_new (Bool.eq_false_iff.mpr (mt (trk_duplicate_iff_fields s).mp hnew))⟩

/-- Settles O16: BEGIN is the two flag writes and the report of `OK`. -/
theorem beginDisablesAndClears : Obligations.BeginDisablesAndClears := fun _ => rfl

/-- Settles O17: REARM is the two flag writes and the report of `OK`. -/
theorem rearmEnables : Obligations.RearmEnables := fun _ => rfl

/-- Settles O21: the step is the event at the state with the input consumed, in one of its three cases. -/
theorem frameIrqSetsTheFlags : Obligations.FrameIrqSetsTheFlags := by
  intro s rest hs
  rw [step_frameIrq s hs]
  exact ⟨fun he => congrArg Host.Outcome.next (frameIrq_disabled (setInputs rest s) he),
    fun he hr => congrArg Host.Outcome.next (frameIrq_first (setInputs rest s) he hr),
    fun he hr => congrArg Host.Outcome.next (frameIrq_second (setInputs rest s) he hr)⟩

end Sys2Proof
end

section
/-! The codes of R201: which of them each command can report. -/

namespace Sys2Proof.Machine

variable {i : Instr} {s t : State}

/-- R201: the codes listed for a command. -/
def listedCodes : Instr → List ResultCode
  | .rsdec | .decode => [.ok, .uncorrectable, .eLength]
  | .filt => [.ok, .filterRejected]
  | .trk => [.ok, .spurious]
  | .clr | .copy | .deint | .strip | .begin_ | .rearm => [.ok]

/-- R128: however `rs_decode` answers, its code is one of three. -/
theorem finishDecode_rsDecode_result_mem (p : Params) (w : List Byte) (s : State) :
    (finishDecode (rsDecode p w) s).result ∈ [ResultCode.ok, .uncorrectable, .eLength] := by
  rcases rsDecode_cases p w with ⟨-, h⟩ | ⟨-, -, h⟩ | ⟨-, c, -, h⟩ <;> rw [h]
  · exact .tail _ (.tail _ (.head _))
  · exact .tail _ (.head _)
  · exact .head _

theorem exec_result_mem_listedCodes (he : exec i s = .next t) : t.result ∈ listedCodes i := by
  cases i with
  | rsdec | decode => cases he; exact finishDecode_rsDecode_result_mem _ _ s
  | filt =>
    cases hpass : filterPass s.wb (lenOperand s) (offOperand s) (fxOperand s) with
    | true => cases he.symm.trans (exec_filt_pass hpass); exact .head _
    | false => cases he.symm.trans (exec_filt_reject hpass); exact .tail _ (.head _)
  | trk =>
    cases hdup : s.prevValid && metricsEqual s.met s.prev with
    | true => cases he.symm.trans (exec_trk_duplicate hdup); exact .tail _ (.head _)
    | false => cases he.symm.trans (exec_trk_new hdup); exact .head _
  | clr | copy | deint | strip | begin_ | rearm => cases he; exact .head _

end Sys2Proof.Machine

namespace Sys2Proof

open Sys2Proof.Machine

/-- Settles O18: every command completes, with a code of its row in `listedCodes`. -/
theorem commandsReportTheirListedCodes : Obligations.CommandsReportTheirListedCodes := by
  intro i s
  obtain ⟨t, he⟩ := exec_completes i s
  have hcode : t.result ∈ listedCodes i := exec_result_mem_listedCodes he
  refine ⟨t, he, fun hi => ?_, fun hi => ?_, fun hi => ?_, fun hi => ?_⟩
  · fin_cases hi <;> exact List.mem_singleton.mp hcode
  · fin_cases hi <;> exact hcode
  · subst hi; exact hcode
  · subst hi; exact hcode

end Sys2Proof
end

section
/-! Reset and hazards (70_reset_and_hazards.md): no state is stuck, and a disabled interrupt input sees no
event until a REARM. -/

namespace Sys2Proof.Machine

variable {h : Input} {s t u : State}

/-! ### A disabled interrupt input -/

/-- In `t`, a state after `s`, the interrupt input is disabled, and no flag is set that was not set in `s`. -/
structure DeafSince (s t : State) : Prop where
  irqEn : t.irqEn = false
  frameReady : t.frameReady = true → s.frameReady = true
  dupSuspected : t.dupSuspected = true → s.dupSuspected = true

theorem DeafSince.refl (hs : s.irqEn = false) : DeafSince s s := ⟨hs, id, id⟩

theorem DeafSince.trans (hst : DeafSince s t) (htu : DeafSince t u) : DeafSince s u :=
  ⟨htu.irqEn, hst.frameReady ∘ htu.frameReady, hst.dupSuspected ∘ htu.dupSuspected⟩

/-- R182: an event is lost while the input is disabled. -/
theorem EventFrame.deafSince (hf : EventFrame h s t) (hs : s.irqEn = false) : DeafSince s t := by
  obtain ⟨_, _, _, _, _, hready, hdup⟩ := hf
  have hlost {p : Prop} : ¬ (p ∧ h.interrupts ∧ s.irqEn = true) := fun ⟨_, _, hen⟩ =>
    Bool.false_ne_true (hs.symm.trans hen)
  exact ⟨hs, fun hr => (hready.resolve_right hlost).symm.trans hr,
    fun hd => (hdup.resolve_right hlost).symm.trans hd⟩

/-- A flag that is kept or cleared is set after only if it was set before. -/
theorem flag_set_before {f f' : Bool} {clears : Prop} (hf : f' = f ∨ (f' = false ∧ clears))
    (hset : f' = true) : f = true := by
  rcases hf with hkept | ⟨hcleared, -⟩
  · exact hkept.symm.trans hset
  · exact absurd (hcleared.symm.trans hset) Bool.false_ne_true

/-- R38: REARM alone enables the input, and no effect sets a flag. -/
theorem Effect.deafSince (he : Effect h s u) (hrearm : ¬ h.runs .rearm) (hs : s.irqEn = false) :
    DeafSince s u where
  irqEn := by
    rcases he.irqEn with hkept | ⟨-, hr⟩ | ⟨hcleared, -⟩
    · exact hkept.trans hs
    · exact absurd hr hrearm
    · exact hcleared
  frameReady := flag_set_before he.frameReady
  dupSuspected := flag_set_before he.dupSuspected

theorem step_deafSince (hrearm : ∀ h ∈ s.inputs.head?, ¬ h.runs .rearm) (ht : step s = .next t)
    (hs : s.irqEn = false) : DeafSince s t := by
  cases hin : s.inputs with
  | nil => cases (step_idle s hin).symm.trans ht; exact .refl hs
  | cons h rest =>
    obtain ⟨s₀, u, hpre, he, hpost⟩ := step_effect hin ht
    have hbefore : DeafSince s s₀ := hpre.deafSince hs
    have heffect : DeafSince s₀ u := he.deafSince (hrearm h (by rw [hin]; rfl)) hbefore.irqEn
    exact hbefore.trans (heffect.trans (hpost.deafSince heffect.irqEn))

/-! ### No stuck state -/

/-- R245: a transaction is answered, alone or beside an event; every other input has its next state. -/
theorem step_completes (s : State) : ∃ t, step s = .next t := by
  cases hin : s.inputs with
  | nil => exact ⟨s, step_idle s hin⟩
  | cons h rest =>
    cases h with
    | transaction tr =>
      obtain ⟨t, -, ht, -⟩ := transact_answered tr (setInputs rest s)
      exact ⟨t, (step_transaction s hin).trans ht⟩
    | frameIrq => exact ⟨_, step_frameIrq s hin⟩
    | reset => exact ⟨_, step_reset s hin⟩
    | irqWith tr =>
      obtain ⟨t, -, ht, -⟩ := coincide_answered tr (setInputs rest s)
      exact ⟨t, (step_irqWith s hin).trans ht⟩
    | resetWith tr => exact ⟨_, step_resetWith s hin⟩

end Sys2Proof.Machine

namespace Sys2Proof

open Sys2Proof.Machine

/-- Settles O38: every kind of input, and none, has a next state. -/
theorem noStateIsStuck : Obligations.NoStateIsStuck := step_completes

/-- Settles O24: `DeafSince` the first state holds there and is kept by every step without a REARM. -/
theorem disabledInputStaysDeadUntilRearm : Obligations.DisabledInputStaysDeadUntilRearm := by
  intro n s t hs hrearm hrun
  have hdeaf : DeafSince s t := core_run_keeps (P := DeafSince s)
    (fun _ _ hhead hstep hv => hv.trans (step_deafSince hhead hstep hv.irqEn)) hrearm hrun (.refl hs)
  exact ⟨hdeaf.irqEn, hdeaf.frameReady, hdeaf.dupSuspected⟩

end Sys2Proof
end
